-- ==== Sys2Proof/Word.lean ====
section
/-!
DEFINITION. The data types of the block: bytes, host words, byte strings (spec/00_scope.md R9, R10).
-/

namespace Sys2Proof

/-- One byte of a buffer, a telegram or the key (00_scope.md R10). -/
abbrev Byte := BitVec 8

/-- A 16-bit register or CRC value. -/
abbrev Half := BitVec 16

/-- One word of the host port (20_memory.md R60, R62). -/
abbrev Word := BitVec 32

/-- A 12-bit byte offset of the host port (20_memory.md R60). -/
abbrev Offset := BitVec 12

/-- A byte string: byte 0 first (00_scope.md R10). -/
abbrev Bytes := List Byte

end Sys2Proof
end

