-- ==== Sys2Proof/Config.lean ====
section
/-!
DEFINITION. The fixed parameters of the block (spec/00_scope.md R7, R8) and the one free value of the model:
the bytes of a buffer that nothing has written since reset (70_reset_and_hazards.md R311).
-/

namespace Sys2Proof.Config

/-- HDR_BYTES, the fixed header length (00_scope.md R7). -/
def hdrBytes : Nat := 17

/-- TRAILER_BYTES, the trailing transceiver CRC (00_scope.md R7). -/
def trailerBytes : Nat := 2

/-- MIN_FRAME, the smallest frame PARSE accepts (00_scope.md R7). -/
def minFrame : Nat := hdrBytes + trailerBytes

/-- FRAME_BYTES, the capacity of FRAME (00_scope.md R7). -/
def frameBytes : Nat := 256

/-- INBUF_CHARS, the capacity of INBUF (00_scope.md R7). -/
def inbufChars : Nat := 512

/-- PT_BYTES, the capacity of PT (00_scope.md R7). -/
def ptBytes : Nat := 256

/-- KEY_BYTES, the only key length DECRYPT accepts (00_scope.md R7). -/
def keyBytes : Nat := 16

/-- IV prefix length (00_scope.md R7). -/
def ivPrefixBytes : Nat := 14

/-- FREE VALUE (log 2). The byte at host offset `addr` that nothing has written since reset number `epoch`:
"each byte holds a value the model does not fix" (70_reset_and_hazards.md R311; 93 U1, U2). It has no body, so
nothing can be proved of its value. -/
opaque bufferByte (epoch addr : Nat) : Byte

end Sys2Proof.Config
end

