-- ==== Sys2Proof/Syntax.lean ====
section
/-!
DEFINITION. Syntax: the commands of spec/opcode_table.json (30_encoding.md R91), the command word (R90), the names of
the address map (20_memory.md R63), the host's transactions and events (R60, 70_reset_and_hazards.md R312), and the
lines of a host program (30_encoding.md R109, R110).
-/

namespace Sys2Proof

/-- The thirteen commands of 30_encoding.md R91. A command takes no immediate operand: every operand is a named
register or buffer. -/
inductive Instr where
  | nop
  | hexdec
  | parse
  | decrypt
  | extract
  | extractDirect
  | crcCcitt
  | crcWmbus
  | checkTrailer
  | checkPcrc
  | process
  | processBin
  | clear
deriving DecidableEq, Repr

/-- A command word split into its two fields (30_encoding.md R90). -/
structure CmdWord where
  /-- RSVD, bits 31:8: must be 0. -/
  rsvd : BitVec 24
  /-- OPCODE, bits 7:0. -/
  opcode : Byte
deriving DecidableEq, Repr

/-- The registers of the address map, one name for each offset (20_memory.md R63). -/
inductive RegName where
  | cmd | status | errflags | inLen | frameLen | crcStart | crcLen | crcResult | keyLen | pcrc
  | key0 | key1 | key2 | key3
  | hdrL | hdrC | hdrM | hdrA | hdrVer | hdrMed | hdrCi | hdrCc | hdrAcc | hdrSn
  | snEnc | snTime | snSession | payLen | trailer
  | iv0 | iv1 | iv2 | iv3
  | val0 | val1 | val2 | val3
  | ptLen | valFound
deriving DecidableEq, Repr

/-- The three internal buffers (10_state.md R53, R54, R55). -/
inductive Buf where
  | inbuf
  | frame
  | pt
deriving DecidableEq, Repr

/-- What an aligned host offset selects (20_memory.md R63, R64). -/
inductive Target where
  | reg (n : RegName)
  /-- Word `k` of a buffer (R66). -/
  | word (b : Buf) (k : Nat)
  | unmapped
deriving DecidableEq, Repr

/-- A transaction of the host port (20_memory.md R60). -/
inductive Txn where
  | read (off : Offset)
  | write (off : Offset) (w : Word)
deriving DecidableEq, Repr

/-- What the outside world does to the block, between commands: a transaction (20_memory.md R60) or an assertion of
reset (70_reset_and_hazards.md R312; 93 U15). -/
inductive Event where
  | txn (t : Txn)
  | reset
deriving DecidableEq, Repr

/-- A name a host program line may use: a register, or a buffer (30_encoding.md R109). -/
inductive HostName where
  | reg (n : RegName)
  | buf (b : Buf)
deriving DecidableEq, Repr

/-- One line of a host program: the four forms of 30_encoding.md R109 and the four pseudo-instructions of R110. The
index `k` of a line is the `+<k>` of R109, 0 where the line has none. Texts, frames and keys are byte strings; a text
is its ASCII codes. -/
inductive HostLine where
  | wr (n : HostName) (k : Nat) (v : Word)
  | rd (n : HostName) (k : Nat)
  | cmd (i : Instr)
  | loadHex (text : Bytes)
  | loadFrame (bytes : Bytes)
  | loadKey (key : Bytes)
  | expect (n : HostName) (k : Nat) (v : Word)
deriving DecidableEq, Repr

end Sys2Proof
end

