-- ==== Sys2Proof/Machine/State.lean ====
section
/-!
DEFINITION. The state of one instance of the block (spec/10_state.md R20), the port the host sees it through
(20_memory.md R60), why a step can stop, and the state after reset (70_reset_and_hazards.md R310).
-/

namespace Sys2Proof.Machine

/-- The buffers INBUF, FRAME and PT as the bytes written since reset, keyed by host offset (20_memory.md R63, R66), in
rising order of the offset. An unlisted offset holds no written byte: what it reads as is `byteAt` of Machine/Ops.lean
(log 2). -/
abbrev Memory := List Host.Cell

/-- FMT: the format of the last successful extraction (10_state.md R32). -/
inductive Format where
  | compact
  | full
deriving DecidableEq, Repr

/-- DSRC: the buffer the last successful extraction read (10_state.md R33). -/
inductive Source where
  | pt
  | frame
deriving DecidableEq, Repr

/-- The answer of the port to one transaction (20_memory.md R60, R61; log 3). -/
inductive Response where
  /-- An aligned Read: the word it returns. -/
  | readData (w : Word)
  /-- An aligned Write: done. -/
  | writeDone
  /-- A misaligned Read: a bus error, with the word it returns. -/
  | readBusError (w : Word)
  /-- A misaligned Write: a bus error. -/
  | writeBusError
deriving DecidableEq, Repr

/-- The header registers a PARSE writes together (10_state.md R42 to R47), IV apart. -/
structure Header where
  /-- HDR_L, the L-field (R43). -/
  hdrL : Byte
  /-- HDR_C, the control field (R43). -/
  hdrC : Byte
  /-- HDR_M, the manufacturer code (R44). -/
  hdrM : Half
  /-- HDR_A, the address (R44). -/
  hdrA : Word
  /-- HDR_VER, the version (R43). -/
  hdrVer : Byte
  /-- HDR_MED, the medium (R43). -/
  hdrMed : Byte
  /-- HDR_CI, the link-layer control information (R43). -/
  hdrCi : Byte
  /-- HDR_CC, the communication control (R43). -/
  hdrCc : Byte
  /-- HDR_ACC, the access field (R43). -/
  hdrAcc : Byte
  /-- HDR_SN, the raw session number (R45). -/
  hdrSn : Word
  /-- SN_ENC, the encryption mode (R45). -/
  snEnc : BitVec 3
  /-- SN_TIME, the minute counter (R45). -/
  snTime : BitVec 25
  /-- SN_SESSION, the session counter (R45). -/
  snSession : BitVec 4
  /-- PAY_LEN, the length of the encrypted payload (R46). -/
  payLen : Half
  /-- TRAILER, the two trailing bytes (R47). -/
  trailer : Half
deriving DecidableEq, Repr

/-- The header registers after reset and after CLEAR (70_reset_and_hazards.md R310; 44_control.md R263). -/
def headerZero : Header :=
  { hdrL := 0, hdrC := 0, hdrM := 0, hdrA := 0, hdrVer := 0, hdrMed := 0, hdrCi := 0, hdrCc := 0, hdrAcc := 0,
    hdrSn := 0, snEnc := 0, snTime := 0, snSession := 0, payLen := 0, trailer := 0 }

/-- The complete state of one instance (10_state.md R20; STATUS is held as its fields, log 12), and the three fields of
the model's own that stand last: `pending`, `response` and `resets` (log 1, log 3, log 2). -/
structure State where
  /-- INBUF, FRAME and PT (R53, R54, R55). -/
  mem : Memory
  /-- KEY, the 16-byte AES key (R27). -/
  key : Vector Byte 16
  /-- IN_LEN (R22). -/
  inLen : Half
  /-- FRAME_LEN (R23). -/
  frameLen : Half
  /-- CRC_START (R24). -/
  crcStart : Half
  /-- CRC_LEN (R25). -/
  crcLen : Half
  /-- KEY_LEN (R26). -/
  keyLen : Byte
  /-- HDR_VALID, STATUS[0] (R29). -/
  hdrValid : Bool
  /-- PT_VALID, STATUS[1] (R30). -/
  ptValid : Bool
  /-- DATA_VALID, STATUS[2] (R31). -/
  dataValid : Bool
  /-- FMT, STATUS[3] (R32). -/
  fmt : Format
  /-- DSRC, STATUS[4] (R33). -/
  dsrc : Source
  /-- RESULT, STATUS[11:8] (R34). -/
  result : BitVec 4
  /-- DETAIL, STATUS[15:12] (R35). -/
  detail : BitVec 4
  /-- LAST_OP, STATUS[23:16] (R36). -/
  lastOp : Byte
  /-- ERRFLAGS (R37). -/
  errflags : Word
  /-- CRC_RESULT (R38). -/
  crcResult : Half
  /-- PCRC (R39). -/
  pcrc : Word
  /-- The header registers, PAY_LEN and TRAILER (R42 to R47). -/
  hdr : Header
  /-- IV, counter block 0 (R48, R49). -/
  iv : Vector Byte 16
  /-- VAL0, A+ (R50). -/
  val0 : Word
  /-- VAL1, A- (R50). -/
  val1 : Word
  /-- VAL2, P+ (R50). -/
  val2 : Word
  /-- VAL3, P- (R50). -/
  val3 : Word
  /-- VAL_FOUND (R51). -/
  valFound : BitVec 4
  /-- PT_LEN (R52). -/
  ptLen : Half
  /-- The model's own: the host's events that the block has not served yet, oldest first (log 1). -/
  pending : List Event
  /-- The model's own: the port's answer to the last transaction served; none before the first one (log 3). -/
  response : Option Response
  /-- The model's own: how many resets the block has served, which tells the free values of one reset from those of
  another (log 2). -/
  resets : Nat
deriving DecidableEq, Repr

/-- Why the machine stops with a fault. -/
inductive Fault where
  /-- A command indexes a buffer outside its capacity. Raised by `readBuf` and `writeBuf` of Machine/Ops.lean, in DECRYPT
  (PAY_LEN above 239) and in EXTRACT (PT_LEN above 256) only. 20_memory.md R70 says that no command does so, and no
  state the block reaches has such a length. Safe: the model stops where the spec gives no byte (log 4). -/
  | bufferOverrun
deriving DecidableEq, Repr

/-- Why the machine refuses to run an instruction. -/
inductive Refusal where
  /-- The instruction has no meaning yet. Raised by an arm of Machine/Dispatch.lean only; no arm raises it. Safe: the
  model stops. -/
  | notModelled (mnemonic : String)
deriving DecidableEq, Repr

/-- The state after reset: every register of 70_reset_and_hazards.md R310 at its value, the buffers with nothing
written (R311; log 2). -/
def State.reset : State :=
  { mem := [], key := Vector.replicate 16 0,
    inLen := 0, frameLen := 0, crcStart := 0, crcLen := 0, keyLen := 0,
    hdrValid := false, ptValid := false, dataValid := false, fmt := .compact, dsrc := .pt,
    result := 0, detail := 0, lastOp := 0, errflags := 0,
    crcResult := 0, pcrc := 0, hdr := headerZero, iv := Vector.replicate 16 0,
    val0 := 0, val1 := 0, val2 := 0, val3 := 0, valFound := 0, ptLen := 0,
    pending := [], response := none, resets := 0 }

end Sys2Proof.Machine
end

