-- ==== Sys2Proof/Machine/Flags.lean ====
section
/-!
DEFINITION. Every flag computation of the block: the outcome codes (spec/60_exceptions.md R281, R282), the valid flags
(10_state.md R29 to R33), the sticky error flags (R37), and the STATUS word (R28).
-/

namespace Sys2Proof.Machine

/-- The outcome names of 60_exceptions.md R281. -/
inductive OutcomeName where
  | ok
  | parseError
  | keyFormatError
  | crcMismatch
  | noData
  | trxCrcMismatch
  | illegalCommand
  | sequenceError
  | rangeError
deriving DecidableEq, Repr

/-- The RESULT code of an outcome (60_exceptions.md R281). -/
def outcomeCode : OutcomeName → BitVec 4
  | .ok => 0
  | .parseError => 1
  | .keyFormatError => 2
  | .crcMismatch => 3
  | .noData => 4
  | .trxCrcMismatch => 5
  | .illegalCommand => 6
  | .sequenceError => 7
  | .rangeError => 8

/-- The (outcome, detail) pairs a command may end with: every row of 60_exceptions.md R282. -/
def legalOutcomes : List (OutcomeName × BitVec 4) :=
  [(.ok, 0), (.ok, 1),
   (.parseError, 1), (.parseError, 2), (.parseError, 3), (.parseError, 4), (.parseError, 5),
   (.keyFormatError, 1), (.keyFormatError, 2),
   (.crcMismatch, 1), (.crcMismatch, 2),
   (.noData, 1), (.noData, 2), (.noData, 3),
   (.trxCrcMismatch, 1),
   (.illegalCommand, 1), (.illegalCommand, 2),
   (.sequenceError, 1), (.sequenceError, 2),
   (.rangeError, 1), (.rangeError, 2), (.rangeError, 3)]

/-- The live bits of ERRFLAGS, [8:1] (10_state.md R37; 93 U4). -/
def errflagsMask : Word := 0x1FE

/-- The ERRFLAGS bit an outcome sets: bit c for a non-OK outcome of code c, none for OK (60_exceptions.md R283). -/
def outcomeFlag (o : OutcomeName) : Word :=
  if outcomeCode o = 0 then 0 else 1 <<< (outcomeCode o).toNat

/-- Outcome recording: what `finish` and `raise` do to the state (60_exceptions.md R283). -/
def recordOutcome (o : OutcomeName) (d : BitVec 4) (s : State) : State :=
  { s with result := outcomeCode o, detail := d, errflags := s.errflags ||| outcomeFlag o }

/-- A host write of `w` to ERRFLAGS: write-one-to-clear on bits [8:1] (10_state.md R37). -/
def clearErrflags (w : Word) (s : State) : State :=
  { s with errflags := s.errflags &&& ~~~(w &&& errflagsMask) }

/-- The word ERRFLAGS reads as: every bit outside [8:1] reads 0 (10_state.md R37). -/
def errflagsWord (s : State) : Word :=
  s.errflags &&& errflagsMask

/-- Clearing the three valid flags: what HEXDEC, PARSE, CLEAR and a host write to FRAME or FRAME_LEN do first
(10_state.md R29 to R31, R57; 20_memory.md R67). -/
def invalidate (s : State) : State :=
  { s with hdrValid := false, ptValid := false, dataValid := false }

/-- Clearing DATA_VALID alone, as an extraction past its first check does (10_state.md R31). -/
def invalidateData (s : State) : State :=
  { s with dataValid := false }

/-- The FMT bit: 0 compact, 1 full (10_state.md R32). -/
def formatBit : Format → BitVec 1
  | .compact => 0
  | .full => 1

/-- The DSRC bit: 0 PT, 1 FRAME (10_state.md R33). -/
def sourceBit : Source → BitVec 1
  | .pt => 0
  | .frame => 1

/-- The STATUS word: bits 31:24 and 7:5 are 0 (10_state.md R28). -/
def statusWord (s : State) : Word :=
  (0 : BitVec 8) ++ s.lastOp ++ s.detail ++ s.result ++ (0 : BitVec 3) ++ sourceBit s.dsrc ++ formatBit s.fmt ++
    BitVec.ofBool s.dataValid ++ BitVec.ofBool s.ptValid ++ BitVec.ofBool s.hdrValid

end Sys2Proof.Machine
end

