-- ==== Sys2Proof/Decode.lean ====
section
/-!
DEFINITION. The command word: its decoder (30_encoding.md R90 to R93), total on all 2^32 words and rejecting by name,
and its encoder.
-/

namespace Sys2Proof

/-- Why a word is no command (30_encoding.md R92). -/
inductive DecodeError where
  /-- RSVD is not 0: ILLEGAL_COMMAND, detail 2. -/
  | reservedBits
  /-- RSVD is 0 and OPCODE is not in R91: ILLEGAL_COMMAND, detail 1. -/
  | undefinedOpcode
deriving DecidableEq, Repr

/-- The two fields of a command word (30_encoding.md R90). -/
def splitWord (w : Word) : CmdWord :=
  { rsvd := w.extractLsb' 8 24, opcode := w.extractLsb' 0 8 }

/-- The command an opcode selects (30_encoding.md R91); none for the 243 reserved values. -/
def decodeOpcode (op : Byte) : Option Instr :=
  match op.toNat with
  | 0x00 => some .nop
  | 0x01 => some .hexdec
  | 0x02 => some .parse
  | 0x03 => some .decrypt
  | 0x04 => some .extract
  | 0x05 => some .extractDirect
  | 0x08 => some .crcCcitt
  | 0x09 => some .crcWmbus
  | 0x0A => some .checkTrailer
  | 0x0B => some .checkPcrc
  | 0x10 => some .process
  | 0x11 => some .processBin
  | 0x1F => some .clear
  | _ => none

/-- The command of a split word: the reserved-bits test comes before the opcode test (30_encoding.md R92). -/
def decodeFields (c : CmdWord) : Except DecodeError Instr :=
  if c.rsvd ≠ 0 then .error .reservedBits
  else
    match decodeOpcode c.opcode with
    | some i => .ok i
    | none => .error .undefinedOpcode

/-- The command a word written to CMD selects, or why it selects none (30_encoding.md R90 to R93). -/
def decode (w : Word) : Except DecodeError Instr :=
  decodeFields (splitWord w)

/-- The opcode of a command (30_encoding.md R91). -/
def opcodeOf : Instr → Byte
  | .nop => 0x00
  | .hexdec => 0x01
  | .parse => 0x02
  | .decrypt => 0x03
  | .extract => 0x04
  | .extractDirect => 0x05
  | .crcCcitt => 0x08
  | .crcWmbus => 0x09
  | .checkTrailer => 0x0A
  | .checkPcrc => 0x0B
  | .process => 0x10
  | .processBin => 0x11
  | .clear => 0x1F

/-- The word of a split command word (30_encoding.md R90). -/
def joinWord (c : CmdWord) : Word :=
  c.rsvd ++ c.opcode

/-- The word the host writes to CMD for a command: RSVD = 0 and its opcode (30_encoding.md R90, R91). -/
def encode (i : Instr) : Word :=
  joinWord { rsvd := 0, opcode := opcodeOf i }

/-- The command word that the numbers `nbits` and `w` of spec/opcode_table.json stand for: the low `nbits` bits of `w`,
every bit above them 0, as one 32-bit word (every command word is 32 bits, 30_encoding.md R90). -/
def tableWord (nbits w : Nat) : Word :=
  BitVec.ofNat 32 (w % 2 ^ nbits)

/-- What the decoder reads from a row of spec/opcode_table.json (none where it rejects the word). -/
def decodeTableWord (nbits w : Nat) : Option Instr :=
  match decode (tableWord nbits w) with
  | .ok i => some i
  | .error _ => none

end Sys2Proof
end

