-- ==== Sys2Proof/WellFormed.lean ====
section
/-!
DEFINITION. What is well formed: a command word (30_encoding.md R90, R91), a transaction (20_memory.md R61), a line of
a host program (30_encoding.md R109, R110).
-/

namespace Sys2Proof

/-- The reserved field of a command word must be 0 (30_encoding.md R90). -/
def reservedClear (c : CmdWord) : Bool :=
  c.rsvd == 0

/-- The opcode is one of the thirteen of 30_encoding.md R91. -/
def opcodeDefined (c : CmdWord) : Bool :=
  (decodeOpcode c.opcode).isSome

/-- A command word that selects a command (30_encoding.md R90 to R92). -/
def cmdWordWf (c : CmdWord) : Bool :=
  reservedClear c && opcodeDefined c

/-- A command is well formed when its word is: since a command has no operand fields (30_encoding.md R91), each is. -/
def instrWf (i : Instr) : Bool :=
  cmdWordWf { rsvd := 0, opcode := opcodeOf i }

/-- A host offset is aligned when off[1:0] = 0 (20_memory.md R61). -/
def aligned (off : Offset) : Bool :=
  off.extractLsb' 0 2 == 0

/-- A transaction is well formed when its offset is aligned; a misaligned one is answered with a bus error
(20_memory.md R61). -/
def txnWf : Txn → Bool
  | .read off => aligned off
  | .write off _ => aligned off

/-- The number of bytes a buffer holds (10_state.md R53, R54, R55). -/
def bufBytes : Buf → Nat
  | .inbuf => Config.inbufChars
  | .frame => Config.frameBytes
  | .pt => Config.ptBytes

/-- The `+<k>` of a host program line names a word of its buffer, and a register has no other word than 0
(30_encoding.md R109; 20_memory.md R63). -/
def hostIndexWf (n : HostName) (k : Nat) : Bool :=
  match n with
  | .reg _ => k == 0
  | .buf b => decide (4 * k < bufBytes b)

/-- A host program line is well formed when its names exist and its text, frame or key fits where the line writes it
(30_encoding.md R109, R110). -/
def hostLineWf : HostLine → Bool
  | .wr n k _ => hostIndexWf n k
  | .rd n k => hostIndexWf n k
  | .cmd i => instrWf i
  | .loadHex text => decide (text.length ≤ Config.inbufChars)
  | .loadFrame bytes => decide (bytes.length ≤ Config.frameBytes)
  | .loadKey key => decide (key.length = Config.keyBytes)
  | .expect n k _ => hostIndexWf n k

end Sys2Proof
end

