-- ==== Sys2Proof/Machine/Ops.lean ====
section
/-!
DEFINITION. The named operations every command is written over: byte strings (spec/00_scope.md R10), the memory that
holds the buffers (20_memory.md R63, R66, R70), and how a command runs and ends (00_scope.md R11; 60_exceptions.md
R283; 44_control.md R259, R261).
-/

namespace Sys2Proof.Machine

/-! ### Byte strings -/

/-- Byte `i` of a byte string (00_scope.md R10). Every rule bounds `i` first; past the end it is 0 (log 6). -/
def byteOf (b : Bytes) (i : Nat) : Byte :=
  b.getD i 0

/-- `B[lo:hi)` (00_scope.md R10). -/
def slice (b : Bytes) (lo hi : Nat) : Bytes :=
  (b.drop lo).take (hi - lo)

/-- LE16(B, o) (00_scope.md R10). -/
def le16 (b : Bytes) (o : Nat) : Half :=
  byteOf b (o + 1) ++ byteOf b o

/-- LE32(B, o) (00_scope.md R10). -/
def le32 (b : Bytes) (o : Nat) : Word :=
  byteOf b (o + 3) ++ byteOf b (o + 2) ++ byteOf b (o + 1) ++ byteOf b o

/-- LE16bytes(v): the low byte first (00_scope.md R10). -/
def le16Bytes (v : Half) : Bytes :=
  [v.extractLsb' 0 8, v.extractLsb' 8 8]

/-- BE16bytes(v): the high byte first (00_scope.md R10). -/
def be16Bytes (v : Half) : Bytes :=
  [v.extractLsb' 8 8, v.extractLsb' 0 8]

/-- The four bytes of a host word, byte j being w[8j+7:8j] (20_memory.md R66). -/
def wordBytes (w : Word) : Bytes :=
  [w.extractLsb' 0 8, w.extractLsb' 8 8, w.extractLsb' 16 8, w.extractLsb' 24 8]

/-- The bytewise xor of two byte strings, as long as the shorter. -/
def xorBytes (a b : Bytes) : Bytes :=
  List.zipWith (fun x y => x ^^^ y) a b

/-! ### Memory -/

/-- The first offset of the buffers (20_memory.md R63). -/
def memBase : Nat := 0x400

/-- The end of the buffers (20_memory.md R63). -/
def memEnd : Nat := 0x800

/-- The canonical form of the memory: offsets strictly rising, each the offset of a buffer byte (log 2). -/
abbrev Memory.wf (m : Memory) : Prop :=
  m.Pairwise (fun c d => c.1 < d.1) ∧ ∀ c ∈ m, memBase ≤ c.1 ∧ c.1 < memEnd

/-- The byte written at an offset, or none where nothing has been written since reset. -/
def Memory.get? : Memory → Nat → Option Byte
  | [], _ => none
  | c :: m, a => if c.1 = a then some c.2 else Memory.get? m a

/-- Writing one byte, keeping the offsets rising. -/
def Memory.set : Memory → Nat → Byte → Memory
  | [], a, b => [(a, b)]
  | c :: m, a, b =>
    if a < c.1 then (a, b) :: c :: m
    else if a = c.1 then (a, b) :: m
    else c :: Memory.set m a b

/-- Writing a byte string at consecutive offsets from `a` (00_scope.md R11, MemWrite). -/
def Memory.setBytes : Memory → Nat → Bytes → Memory
  | m, _, [] => m
  | m, a, b :: bs => Memory.setBytes (Memory.set m a b) (a + 1) bs

/-- The byte a buffer offset holds: the byte last written, or, where nothing has been written since reset, the free
value of that offset (70_reset_and_hazards.md R311; 93 U1, U2; log 2). -/
def byteAt (s : State) (a : Nat) : Byte :=
  match Memory.get? s.mem a with
  | some b => b
  | none => Config.bufferByte s.resets a

/-- The `n` bytes from offset `a` on. -/
def bytesAt (s : State) (a n : Nat) : Bytes :=
  (List.range n).map fun i => byteAt s (a + i)

/-- The host offset of a buffer's byte 0 (20_memory.md R63, R66). -/
def bufBase : Buf → Nat
  | .inbuf => 0x400
  | .frame => 0x600
  | .pt => 0x700

/-! ### Running and ending a command -/

/-- How a command's body ends: with an outcome and a detail (00_scope.md R11, `finish` and `raise`), or with a fault. -/
inductive BodyEnd where
  | ended (s : State) (o : OutcomeName) (d : BitVec 4)
  | fault (f : Fault)
deriving DecidableEq, Repr

/-- `finish OK(d)` (00_scope.md R11). -/
def finish (d : BitVec 4) (s : State) : BodyEnd :=
  .ended s .ok d

/-- `raise X(d)` (00_scope.md R11). -/
def raise (o : OutcomeName) (d : BitVec 4) (s : State) : BodyEnd :=
  .ended s o d

/-- MemRead(BUF, a, n), and then the rest of the command (00_scope.md R11). An index outside the buffer's capacity,
which 20_memory.md R70 rules out, faults (log 4). -/
def readBuf (b : Buf) (a n : Nat) (s : State) (k : Bytes → BodyEnd) : BodyEnd :=
  if a + n ≤ bufBytes b then k (bytesAt s (bufBase b + a) n) else .fault .bufferOverrun

/-- MemWrite(BUF, a, S), and then the rest of the command (00_scope.md R11). An index outside the buffer's capacity
faults (log 4). -/
def writeBuf (b : Buf) (a : Nat) (bs : Bytes) (s : State) (k : State → BodyEnd) : BodyEnd :=
  if a + bs.length ≤ bufBytes b then k { s with mem := Memory.setBytes s.mem (bufBase b + a) bs }
  else .fault .bufferOverrun

/-- One stage after another: the second runs only when the first ended OK (44_control.md R261). -/
def andThen (first second : State → BodyEnd) (s : State) : BodyEnd :=
  match first s with
  | .ended s' .ok _ => second s'
  | .ended s' o d => .ended s' o d
  | .fault f => .fault f

/-- Recording how a body ended (60_exceptions.md R283): the next state of the command. -/
def conclude : BodyEnd → Host.Outcome State Fault Refusal
  | .ended s o d => .next (recordOutcome o d s)
  | .fault f => .fault f

/-- LAST_OP takes bits [7:0] of the command word before anything else happens (44_control.md R259). -/
def latchOp (op : Byte) (s : State) : State :=
  { s with lastOp := op }

/-- A command: LAST_OP, the body of its rule, its outcome (44_control.md R259; 60_exceptions.md R283; log 7). -/
def runCommand (i : Instr) (body : State → BodyEnd) (s : State) : Host.Outcome State Fault Refusal :=
  conclude (body (latchOp (opcodeOf i) s))

end Sys2Proof.Machine
end

