-- ==== Sys2Proof/Machine/Operands.lean ====
section
/-!
DEFINITION. The operands commands read: every operand is a named register or buffer (spec/30_encoding.md R91).
-/

namespace Sys2Proof.Machine

/-- The text HEXDEC decodes, INBUF[0:IN_LEN) (10_state.md R22, R53). -/
def inText (s : State) : Bytes :=
  bytesAt s (bufBase .inbuf) s.inLen.toNat

/-- The frame F = FRAME[0:N) with N = FRAME_LEN (10_state.md R23; 30_encoding.md R96). -/
def frameString (s : State) : Bytes :=
  bytesAt s (bufBase .frame) s.frameLen.toNat

/-- The encrypted payload DECRYPT reads, FRAME[17 : 17+PAY_LEN) (30_encoding.md R99; 42_decrypt.md R201). -/
def cipherText (s : State) : Bytes :=
  bytesAt s (bufBase .frame + Config.hdrBytes) s.hdr.payLen.toNat

/-- The plaintext EXTRACT reads, PT[0:PT_LEN) (10_state.md R52, R55; 30_encoding.md R102). -/
def plainText (s : State) : Bytes :=
  bytesAt s (bufBase .pt) s.ptLen.toNat

/-- The CRC window FRAME[CRC_START : CRC_START+CRC_LEN) (40_crc.md R138). -/
def windowString (s : State) : Bytes :=
  bytesAt s (bufBase .frame + s.crcStart.toNat) s.crcLen.toNat

/-- The window check of 40_crc.md R138, and then the rest of the command with the window. -/
def readWindow (s : State) (k : Bytes → BodyEnd) : BodyEnd :=
  if s.frameLen.toNat > Config.frameBytes then raise .rangeError 2 s
  else if s.crcStart.toNat + s.crcLen.toNat > s.frameLen.toNat then raise .rangeError 1 s
  else readBuf .frame s.crcStart.toNat s.crcLen.toNat s k

/-- KEY, the 16-byte key string (00_scope.md R11; 10_state.md R27). -/
def keyString (s : State) : Bytes :=
  s.key.toList

/-- IV[0:14), the counter-block prefix (10_state.md R49; 30_encoding.md R101). -/
def ivPrefix (s : State) : Bytes :=
  s.iv.toList.take Config.ivPrefixBytes

end Sys2Proof.Machine
end

