-- ==== Sys2Proof/Machine/Aes.lean ====
section
/-!
DEFINITION. The AES-128 forward cipher (spec/42_decrypt.md R190 to R198, which the spec marks as general knowledge:
log 8). A state, a round key and a key-schedule word are byte strings; the state array is s[r][c] = S[r + 4c].
-/

namespace Sys2Proof.Machine

/-- Rows 0 to 3 of the S-box table (42_decrypt.md R191). -/
def sboxRows0 : List Bytes :=
  [[0x63, 0x7C, 0x77, 0x7B, 0xF2, 0x6B, 0x6F, 0xC5, 0x30, 0x01, 0x67, 0x2B, 0xFE, 0xD7, 0xAB, 0x76],
   [0xCA, 0x82, 0xC9, 0x7D, 0xFA, 0x59, 0x47, 0xF0, 0xAD, 0xD4, 0xA2, 0xAF, 0x9C, 0xA4, 0x72, 0xC0],
   [0xB7, 0xFD, 0x93, 0x26, 0x36, 0x3F, 0xF7, 0xCC, 0x34, 0xA5, 0xE5, 0xF1, 0x71, 0xD8, 0x31, 0x15],
   [0x04, 0xC7, 0x23, 0xC3, 0x18, 0x96, 0x05, 0x9A, 0x07, 0x12, 0x80, 0xE2, 0xEB, 0x27, 0xB2, 0x75]]

/-- Rows 4 to 7 of the S-box table (42_decrypt.md R191). -/
def sboxRows1 : List Bytes :=
  [[0x09, 0x83, 0x2C, 0x1A, 0x1B, 0x6E, 0x5A, 0xA0, 0x52, 0x3B, 0xD6, 0xB3, 0x29, 0xE3, 0x2F, 0x84],
   [0x53, 0xD1, 0x00, 0xED, 0x20, 0xFC, 0xB1, 0x5B, 0x6A, 0xCB, 0xBE, 0x39, 0x4A, 0x4C, 0x58, 0xCF],
   [0xD0, 0xEF, 0xAA, 0xFB, 0x43, 0x4D, 0x33, 0x85, 0x45, 0xF9, 0x02, 0x7F, 0x50, 0x3C, 0x9F, 0xA8],
   [0x51, 0xA3, 0x40, 0x8F, 0x92, 0x9D, 0x38, 0xF5, 0xBC, 0xB6, 0xDA, 0x21, 0x10, 0xFF, 0xF3, 0xD2]]

/-- Rows 8 to b of the S-box table (42_decrypt.md R191). -/
def sboxRows2 : List Bytes :=
  [[0xCD, 0x0C, 0x13, 0xEC, 0x5F, 0x97, 0x44, 0x17, 0xC4, 0xA7, 0x7E, 0x3D, 0x64, 0x5D, 0x19, 0x73],
   [0x60, 0x81, 0x4F, 0xDC, 0x22, 0x2A, 0x90, 0x88, 0x46, 0xEE, 0xB8, 0x14, 0xDE, 0x5E, 0x0B, 0xDB],
   [0xE0, 0x32, 0x3A, 0x0A, 0x49, 0x06, 0x24, 0x5C, 0xC2, 0xD3, 0xAC, 0x62, 0x91, 0x95, 0xE4, 0x79],
   [0xE7, 0xC8, 0x37, 0x6D, 0x8D, 0xD5, 0x4E, 0xA9, 0x6C, 0x56, 0xF4, 0xEA, 0x65, 0x7A, 0xAE, 0x08]]

/-- Rows c to f of the S-box table (42_decrypt.md R191). -/
def sboxRows3 : List Bytes :=
  [[0xBA, 0x78, 0x25, 0x2E, 0x1C, 0xA6, 0xB4, 0xC6, 0xE8, 0xDD, 0x74, 0x1F, 0x4B, 0xBD, 0x8B, 0x8A],
   [0x70, 0x3E, 0xB5, 0x66, 0x48, 0x03, 0xF6, 0x0E, 0x61, 0x35, 0x57, 0xB9, 0x86, 0xC1, 0x1D, 0x9E],
   [0xE1, 0xF8, 0x98, 0x11, 0x69, 0xD9, 0x8E, 0x94, 0x9B, 0x1E, 0x87, 0xE9, 0xCE, 0x55, 0x28, 0xDF],
   [0x8C, 0xA1, 0x89, 0x0D, 0xBF, 0xE6, 0x42, 0x68, 0x41, 0x99, 0x2D, 0x0F, 0xB0, 0x54, 0xBB, 0x16]]

/-- The S-box table: row the high nibble, column the low nibble (42_decrypt.md R191). -/
def sboxTable : List Bytes :=
  sboxRows0 ++ sboxRows1 ++ sboxRows2 ++ sboxRows3

/-- S(a), read from the table (42_decrypt.md R191). -/
def sbox (a : Byte) : Byte :=
  byteOf (sboxTable.getD (a.toNat / 16) []) (a.toNat % 16)

/-- xtime(a), the product by x in GF(2^8) modulo 0x11B (42_decrypt.md R191). -/
def xtime (a : Byte) : Byte :=
  if a.getLsbD 7 then (a <<< 1) ^^^ 0x1B else a <<< 1

/-- The product in GF(2^8): the xor of xtime^i(a) over the bits i set in b (42_decrypt.md R191). -/
def gfMul (a b : Byte) : Byte :=
  (List.range 8).foldl (fun acc i => if b.getLsbD i then acc ^^^ xtime^[i] a else acc) 0

/-- The affine map A of the S-box, with c = 0x63: bit i takes b[i] and b[(i+4) mod 8] to b[(i+7) mod 8] (42_decrypt.md
R191). The table `sbox` reads from is A of the inverse in GF(2^8). -/
def sboxAffine (b : Byte) : Byte :=
  b ^^^ b.rotateRight 4 ^^^ b.rotateRight 5 ^^^ b.rotateRight 6 ^^^ b.rotateRight 7 ^^^ 0x63

/-- SubBytes (42_decrypt.md R192). -/
def subBytes (s : Bytes) : Bytes :=
  s.map sbox

/-- ShiftRows: s'[r][c] = s[r][(c + r) mod 4], with r = k mod 4 and c = k / 4 (42_decrypt.md R193). -/
def shiftRows (s : Bytes) : Bytes :=
  (List.range 16).map fun k => byteOf s (k % 4 + 4 * ((k / 4 + k % 4) % 4))

/-- One column of MixColumns, with 2 a = xtime(a) and 3 a = xtime(a) xor a (42_decrypt.md R194). -/
def mixColumn (a0 a1 a2 a3 : Byte) : Bytes :=
  [xtime a0 ^^^ (xtime a1 ^^^ a1) ^^^ a2 ^^^ a3,
   a0 ^^^ xtime a1 ^^^ (xtime a2 ^^^ a2) ^^^ a3,
   a0 ^^^ a1 ^^^ xtime a2 ^^^ (xtime a3 ^^^ a3),
   (xtime a0 ^^^ a0) ^^^ a1 ^^^ a2 ^^^ xtime a3]

/-- MixColumns (42_decrypt.md R194). -/
def mixColumns (s : Bytes) : Bytes :=
  (List.range 4).flatMap fun c =>
    mixColumn (byteOf s (4 * c)) (byteOf s (4 * c + 1)) (byteOf s (4 * c + 2)) (byteOf s (4 * c + 3))

/-- Rcon[0..10]; Rcon[0] is never used (42_decrypt.md R196). -/
def rcon : Bytes :=
  [0x00, 0x01, 0x02, 0x04, 0x08, 0x10, 0x20, 0x40, 0x80, 0x1B, 0x36]

/-- RotWord, SubWord and the round constant, for a word index that is a multiple of 4 (42_decrypt.md R196). -/
def scheduleCore (j : Nat) (t : Bytes) : Bytes :=
  [sbox (byteOf t 1) ^^^ byteOf rcon (j / 4), sbox (byteOf t 2), sbox (byteOf t 3), sbox (byteOf t 0)]

/-- Word w[j] of the key schedule from the words before it, for j from 4 on (42_decrypt.md R196). -/
def scheduleWord (w : List Bytes) (j : Nat) : Bytes :=
  let t := w.getD (j - 1) []
  xorBytes (w.getD (j - 4) []) (if j % 4 = 0 then scheduleCore j t else t)

/-- The key schedule w[0..43] of a 16-byte key (42_decrypt.md R196). -/
def keyExpansion (key : Bytes) : List Bytes :=
  (List.range' 4 40).foldl (fun w j => w ++ [scheduleWord w j])
    ((List.range 4).map fun j => slice key (4 * j) (4 * j + 4))

/-- Round key i: the words w[4i] to w[4i+3] in order (42_decrypt.md R195). -/
def roundKey (w : List Bytes) (i : Nat) : Bytes :=
  (List.range 4).flatMap fun c => w.getD (4 * i + c) []

/-- AddRoundKey(i) (42_decrypt.md R195). -/
def addRoundKey (w : List Bytes) (i : Nat) (s : Bytes) : Bytes :=
  xorBytes s (roundKey w i)

/-- One of the rounds 1 to 9 (42_decrypt.md R197). -/
def cipherRound (w : List Bytes) (s : Bytes) (i : Nat) : Bytes :=
  addRoundKey w i (mixColumns (shiftRows (subBytes s)))

/-- AES128_Encrypt(K, X) (42_decrypt.md R190, R197). -/
def aes128Encrypt (key x : Bytes) : Bytes :=
  let w := keyExpansion key
  let s := (List.range' 1 9).foldl (cipherRound w) (addRoundKey w 0 x)
  addRoundKey w 10 (shiftRows (subBytes s))

end Sys2Proof.Machine
end

