-- ==== Sys2Proof/Machine/Crc.lean ====
section
/-!
DEFINITION. The CRC engines, the payload CRC validator and the four CRC commands (spec/40_crc.md R130 to R142).
-/

namespace Sys2Proof.Machine

/-- One bit of CCITT16: the register shifts right, and a 1 shifted out brings in 0x8408 (40_crc.md R130). -/
def ccittBit (crc : Half) : Half :=
  if crc.getLsbD 0 then (crc >>> 1) ^^^ 0x8408 else crc >>> 1

/-- One byte of CCITT16: it enters at the low end (40_crc.md R130). -/
def ccittByte (crc : Half) (b : Byte) : Half :=
  ccittBit^[8] (crc ^^^ b.setWidth 16)

/-- CCITT16(B), the transceiver CRC: initial value and final xor 0xFFFF (40_crc.md R130, R131). -/
def ccitt16 (b : Bytes) : Half :=
  b.foldl ccittByte 0xFFFF ^^^ 0xFFFF

/-- One bit of WMBUS16: the register shifts left, and a 1 shifted out brings in 0x3D65 (40_crc.md R133). -/
def wmbusBit (crc : Half) : Half :=
  if crc.getLsbD 15 then (crc <<< 1) ^^^ 0x3D65 else crc <<< 1

/-- One byte of WMBUS16: it enters at the high end (40_crc.md R133). -/
def wmbusByte (crc : Half) (b : Byte) : Half :=
  wmbusBit^[8] (crc ^^^ (b.setWidth 16 <<< 8))

/-- WMBUS16(B), the payload CRC: initial value 0x0000, final xor 0xFFFF (40_crc.md R133 to R135; log 14). -/
def wmbus16 (b : Bytes) : Half :=
  b.foldl wmbusByte 0x0000 ^^^ 0xFFFF

/-- The computed payload CRC: WMBUS16 of the payload after its CRC field (40_crc.md R137). -/
def payloadCrcComputed (p : Bytes) : Half :=
  wmbus16 (p.drop 2)

/-- The expected payload CRC: the 2 leading bytes, little-endian (40_crc.md R137). -/
def payloadCrcExpected (p : Bytes) : Half :=
  le16 p 0

/-- The verdict of the payload CRC validator (40_crc.md R137). -/
def payloadCrcOk (p : Bytes) : Bool :=
  payloadCrcComputed p == payloadCrcExpected p

/-- The word PCRC takes: expected in [31:16], computed in [15:0] (10_state.md R39). -/
def pcrcWord (p : Bytes) : Word :=
  payloadCrcExpected p ++ payloadCrcComputed p

/-- The body of CRC_CCITT (40_crc.md R139). -/
def crcCcittBody (s : State) : BodyEnd :=
  readWindow s fun w => finish 0 { s with crcResult := ccitt16 w }

/-- The body of CRC_WMBUS (40_crc.md R140). -/
def crcWmbusBody (s : State) : BodyEnd :=
  readWindow s fun w => finish 0 { s with crcResult := wmbus16 w }

/-- The body of CHECK_TRAILER (40_crc.md R141). -/
def checkTrailerBody (s : State) : BodyEnd :=
  let n := s.frameLen.toNat
  if n > Config.frameBytes then raise .rangeError 2 s
  else if n < 3 then raise .rangeError 3 s
  else
    readBuf .frame 1 (n - 3) s fun mid =>
      readBuf .frame (n - 2) 2 s fun tail =>
        let c := ccitt16 mid
        let s' := { s with crcResult := c }
        if le16 tail 0 = c then finish 0 s' else raise .trxCrcMismatch 1 s'

/-- The body of CHECK_PCRC (40_crc.md R142). -/
def checkPcrcBody (s : State) : BodyEnd :=
  readWindow s fun w =>
    if w.length < 2 then raise .rangeError 3 s
    else
      let s' := { s with crcResult := payloadCrcComputed w, pcrc := pcrcWord w }
      if payloadCrcOk w then finish 0 s' else raise .crcMismatch 1 s'

/-- CRC_CCITT (40_crc.md R139). -/
def execCrcCcitt (s : State) : Host.Outcome State Fault Refusal :=
  runCommand .crcCcitt crcCcittBody s

/-- CRC_WMBUS (40_crc.md R140). -/
def execCrcWmbus (s : State) : Host.Outcome State Fault Refusal :=
  runCommand .crcWmbus crcWmbusBody s

/-- CHECK_TRAILER (40_crc.md R141). -/
def execCheckTrailer (s : State) : Host.Outcome State Fault Refusal :=
  runCommand .checkTrailer checkTrailerBody s

/-- CHECK_PCRC (40_crc.md R142). -/
def execCheckPcrc (s : State) : Host.Outcome State Fault Refusal :=
  runCommand .checkPcrc checkPcrcBody s

end Sys2Proof.Machine
end

