-- ==== Sys2Proof/Machine/Decrypt.lean ====
section
/-!
DEFINITION. Counter mode and DECRYPT (spec/42_decrypt.md R199 to R206).
-/

namespace Sys2Proof.Machine

/-- Counter block k: the prefix, then the big-endian block counter (42_decrypt.md R199; 30_encoding.md R101). -/
def counterBlock (iv14 : Bytes) (k : Nat) : Bytes :=
  iv14 ++ be16Bytes (BitVec.ofNat 16 k)

/-- Keystream block k (42_decrypt.md R199). -/
def keystreamBlock (key iv14 : Bytes) (k : Nat) : Bytes :=
  aes128Encrypt key (counterBlock iv14 k)

/-- The keystream blocks for `n` bytes, one after another (42_decrypt.md R199). -/
def keystream (key iv14 : Bytes) (n : Nat) : Bytes :=
  (List.range ((n + 15) / 16)).flatMap (keystreamBlock key iv14)

/-- CtrCrypt(K, IV14, C): a final partial block uses the leading bytes of its keystream block (42_decrypt.md R199). -/
def ctrCrypt (key iv14 c : Bytes) : Bytes :=
  xorBytes c (keystream key iv14 c.length)

/-- The body of DECRYPT (42_decrypt.md R201). -/
def decryptBody (s : State) : BodyEnd :=
  if s.hdrValid = false then raise .sequenceError 1 s
  else if s.keyLen = 0 then raise .keyFormatError 1 s
  else if s.keyLen.toNat ≠ Config.keyBytes then raise .keyFormatError 2 s
  else if s.ptValid = true then finish 1 s
  else if s.hdr.payLen.toNat < 2 then raise .crcMismatch 2 s
  else
    readBuf .frame Config.hdrBytes s.hdr.payLen.toNat s fun c =>
      let p := ctrCrypt (keyString s) (ivPrefix s) c
      let s := { s with pcrc := pcrcWord p }
      if payloadCrcOk p then
        writeBuf .pt 0 p s fun s => finish 0 { s with ptLen := s.hdr.payLen, ptValid := true }
      else raise .crcMismatch 1 s

/-- DECRYPT (42_decrypt.md R201). -/
def execDecrypt (s : State) : Host.Outcome State Fault Refusal :=
  runCommand .decrypt decryptBody s

end Sys2Proof.Machine
end

