-- ==== Sys2Proof/Machine/Extract.lean ====
section
/-!
DEFINITION. The payload field scanner and the two extraction commands (spec/43_extract.md R230 to R238).
-/

namespace Sys2Proof.Machine

/-- The CI byte of a compact payload (30_encoding.md R103). -/
def ciCompact : Byte := 0x79

/-- The CI byte of a full payload (30_encoding.md R103). -/
def ciFull : Byte := 0x78

/-- The descriptor pattern of A+ (30_encoding.md R106; log 14). -/
def patternAPlus : Bytes := [0x04, 0x04]

/-- The descriptor pattern of A- (30_encoding.md R106). -/
def patternAMinus : Bytes := [0x04, 0x84, 0x3C]

/-- The descriptor pattern of P+ (30_encoding.md R106). -/
def patternPPlus : Bytes := [0x04, 0x2B]

/-- The descriptor pattern of P- (30_encoding.md R106). -/
def patternPMinus : Bytes := [0x04, 0xAB, 0x3C]

/-- A result of Extract: the tuple, FOUND and FMT (43_extract.md R230). -/
structure Extraction where
  v0 : Word
  v1 : Word
  v2 : Word
  v3 : Word
  found : BitVec 4
  format : Format
deriving DecidableEq, Repr

/-- Whether the pattern matches at index i with its 4 value bytes inside the payload (43_extract.md R234). -/
def matchesAt (p pat : Bytes) (i : Nat) : Bool :=
  decide (i + pat.length + 4 ≤ p.length) && (slice p i (i + pat.length) == pat)

/-- ScanField(P, pat): the value after the first match from index 3 on (43_extract.md R234). -/
def scanField (p pat : Bytes) : Option Word :=
  match (List.range' 3 p.length).find? (matchesAt p pat) with
  | some i => some (le32 p (i + pat.length))
  | none => none

/-- The value of a full-frame field: 0 where its pattern is not found (43_extract.md R233). -/
def fieldValue (p pat : Bytes) : Word :=
  (scanField p pat).getD 0

/-- Whether a full-frame field was found (43_extract.md R230). -/
def fieldFound (p pat : Bytes) : Bool :=
  (scanField p pat).isSome

/-- A compact payload's tuple (43_extract.md R232; 30_encoding.md R104). -/
def extractCompact (p : Bytes) : Extraction :=
  { v0 := le32 p 7, v1 := le32 p 11, v2 := le32 p 15, v3 := le32 p 19, found := 0xF, format := .compact }

/-- A full payload's tuple: four independent scans; bit i of FOUND is pattern i (43_extract.md R230, R233). -/
def extractFull (p : Bytes) : Extraction :=
  { v0 := fieldValue p patternAPlus
    v1 := fieldValue p patternAMinus
    v2 := fieldValue p patternPPlus
    v3 := fieldValue p patternPMinus
    found := BitVec.ofBool (fieldFound p patternPMinus) ++ BitVec.ofBool (fieldFound p patternPPlus) ++
      BitVec.ofBool (fieldFound p patternAMinus) ++ BitVec.ofBool (fieldFound p patternAPlus)
    format := .full }

/-- Extract(P): a tuple, or NODATA with its detail (43_extract.md R230, R231, R235). -/
def extractFields (p : Bytes) : Except (BitVec 4) Extraction :=
  if p.length < 3 then .error 2
  else if byteOf p 2 = ciCompact then
    if p.length < 23 then .error 3 else .ok (extractCompact p)
  else if byteOf p 2 = ciFull then .ok (extractFull p)
  else .error 1

/-- What a successful extraction writes (43_extract.md R236, R237). -/
def storeExtraction (x : Extraction) (src : Source) (s : State) : State :=
  { s with val0 := x.v0, val1 := x.v1, val2 := x.v2, val3 := x.v3, valFound := x.found, fmt := x.format, dsrc := src,
           dataValid := true }

/-- The part the two extraction commands share: the extractor over a payload, NO_DATA or the tuple (43_extract.md
R235 to R237). -/
def extractFrom (src : Source) (p : Bytes) (s : State) : BodyEnd :=
  match extractFields p with
  | .error d => raise .noData d s
  | .ok x => finish 0 (storeExtraction x src s)

/-- The body of EXTRACT (43_extract.md R236). -/
def extractBody (s : State) : BodyEnd :=
  if s.ptValid = false then raise .sequenceError 2 s
  else
    let s := invalidateData s
    readBuf .pt 0 s.ptLen.toNat s fun p => extractFrom .pt p s

/-- The body of EXTRACT_DIRECT (43_extract.md R237). -/
def extractDirectBody (s : State) : BodyEnd :=
  if s.frameLen.toNat > Config.frameBytes then raise .rangeError 2 s
  else
    let s := invalidateData s
    readBuf .frame 0 s.frameLen.toNat s fun p => extractFrom .frame p s

/-- EXTRACT (43_extract.md R236). -/
def execExtract (s : State) : Host.Outcome State Fault Refusal :=
  runCommand .extract extractBody s

/-- EXTRACT_DIRECT (43_extract.md R237). -/
def execExtractDirect (s : State) : Host.Outcome State Fault Refusal :=
  runCommand .extractDirect extractDirectBody s

end Sys2Proof.Machine
end

