-- ==== Sys2Proof/Machine/FrameParser.lean ====
section
/-!
DEFINITION. The frame parser: hex ingest, header decoder and counter-block derivation (spec/41_frame_parser.md R160 to
R167).
-/

namespace Sys2Proof.Machine

/-- The value of a hex digit, for exactly the 22 ASCII codes of 30_encoding.md R95. -/
def hexDigit (c : Byte) : Option Byte :=
  if 0x30 ≤ c ∧ c ≤ 0x39 then some (c - 0x30)
  else if 0x41 ≤ c ∧ c ≤ 0x46 then some (c - 0x41 + 10)
  else if 0x61 ≤ c ∧ c ≤ 0x66 then some (c - 0x61 + 10)
  else none

/-- The bytes of a text of digit pairs, high nibble first (30_encoding.md R94); none where a character is no digit
or has no partner. -/
def hexPairs : Bytes → Option Bytes
  | [] => some []
  | [_] => none
  | hi :: lo :: rest =>
    match hexDigit hi, hexDigit lo, hexPairs rest with
    | some h, some l, some r => some ((16 * h + l) :: r)
    | _, _, _ => none

/-- HexDecode(T): the odd-length test (detail 1) comes before the digit test (detail 2) (41_frame_parser.md R160). -/
def hexDecode (t : Bytes) : Except (BitVec 4) Bytes :=
  if t.length % 2 = 1 then .error 1
  else
    match hexPairs t with
    | some b => .ok b
    | none => .error 2

/-- ParseHeader(F), for 19 ≤ len(F) ≤ 256 (41_frame_parser.md R162). -/
def parseHeader (f : Bytes) : Header :=
  let sn := le32 f 13
  { hdrL := byteOf f 0
    hdrC := byteOf f 1
    hdrM := le16 f 2
    hdrA := le32 f 4
    hdrVer := byteOf f 8
    hdrMed := byteOf f 9
    hdrCi := byteOf f 10
    hdrCc := byteOf f 11
    hdrAcc := byteOf f 12
    hdrSn := sn
    snEnc := sn.extractLsb' 29 3
    snTime := sn.extractLsb' 4 25
    snSession := sn.extractLsb' 0 4
    payLen := BitVec.ofNat 16 (f.length - Config.minFrame)
    trailer := le16 f (f.length - Config.trailerBytes) }

/-- DeriveIV(F), for len(F) ≥ 17: counter block 0 (41_frame_parser.md R163; 30_encoding.md R101). -/
def deriveIV (f : Bytes) : Vector Byte 16 :=
  #v[byteOf f 2, byteOf f 3, byteOf f 4, byteOf f 5, byteOf f 6, byteOf f 7, byteOf f 8, byteOf f 9,
     byteOf f 11, byteOf f 13, byteOf f 14, byteOf f 15, byteOf f 16, 0, 0, 0]

/-- The body of HEXDEC (41_frame_parser.md R161). -/
def hexdecBody (s : State) : BodyEnd :=
  let s := invalidate s
  let n := s.inLen.toNat
  if n > Config.inbufChars then raise .parseError 3 s
  else
    readBuf .inbuf 0 n s fun text =>
      match hexDecode text with
      | .error d => raise .parseError d s
      | .ok r => writeBuf .frame 0 r s fun s => finish 0 { s with frameLen := BitVec.ofNat 16 (n / 2) }

/-- The body of PARSE (41_frame_parser.md R164). -/
def parseBody (s : State) : BodyEnd :=
  let s := invalidate s
  let n := s.frameLen.toNat
  if n > Config.frameBytes then raise .parseError 5 s
  else if n < Config.minFrame then raise .parseError 4 s
  else
    readBuf .frame 0 n s fun f =>
      finish 0 { s with hdr := parseHeader f, iv := deriveIV f, hdrValid := true }

/-- HEXDEC (41_frame_parser.md R161). -/
def execHexdec (s : State) : Host.Outcome State Fault Refusal :=
  runCommand .hexdec hexdecBody s

/-- PARSE (41_frame_parser.md R164). -/
def execParse (s : State) : Host.Outcome State Fault Refusal :=
  runCommand .parse parseBody s

end Sys2Proof.Machine
end

