-- ==== Sys2Proof/Machine/Control.lean ====
section
/-!
DEFINITION. The control commands NOP, PROCESS, PROCESS_BIN and CLEAR, and the illegal command words
(spec/44_control.md R259 to R263; 30_encoding.md R92).
-/

namespace Sys2Proof.Machine

/-- The body of NOP (44_control.md R260). -/
def nopBody (s : State) : BodyEnd :=
  finish 0 s

/-- The body of PROCESS_BIN: PARSE, DECRYPT, EXTRACT, up to the first non-OK outcome (44_control.md R262). -/
def processBinBody : State → BodyEnd :=
  andThen parseBody (andThen decryptBody extractBody)

/-- The body of PROCESS: HEXDEC, then the stages of PROCESS_BIN (44_control.md R261). -/
def processBody : State → BodyEnd :=
  andThen hexdecBody (andThen parseBody (andThen decryptBody extractBody))

/-- What CLEAR zeroes (44_control.md R263). -/
def clearDecoded (s : State) : State :=
  { invalidate s with
    fmt := .compact, dsrc := .pt, hdr := headerZero, iv := Vector.replicate 16 0,
    val0 := 0, val1 := 0, val2 := 0, val3 := 0, valFound := 0, ptLen := 0, crcResult := 0, pcrc := 0 }

/-- The body of CLEAR (44_control.md R263). -/
def clearBody (s : State) : BodyEnd :=
  finish 0 (clearDecoded s)

/-- The ILLEGAL_COMMAND detail of a word the decoder rejects (30_encoding.md R92). -/
def illegalDetail : DecodeError → BitVec 4
  | .undefinedOpcode => 1
  | .reservedBits => 2

/-- A word that is no command: LAST_OP and ILLEGAL_COMMAND, and nothing else (30_encoding.md R92; 44_control.md
R259). -/
def illegalCommand (w : Word) (e : DecodeError) (s : State) : State :=
  recordOutcome .illegalCommand (illegalDetail e) (latchOp (w.extractLsb' 0 8) s)

/-- NOP (44_control.md R260). -/
def execNop (s : State) : Host.Outcome State Fault Refusal :=
  runCommand .nop nopBody s

/-- PROCESS (44_control.md R261). -/
def execProcess (s : State) : Host.Outcome State Fault Refusal :=
  runCommand .process processBody s

/-- PROCESS_BIN (44_control.md R262). -/
def execProcessBin (s : State) : Host.Outcome State Fault Refusal :=
  runCommand .processBin processBinBody s

/-- CLEAR (44_control.md R263). -/
def execClear (s : State) : Host.Outcome State Fault Refusal :=
  runCommand .clear clearBody s

end Sys2Proof.Machine
end

