-- ==== Sys2Proof/Machine/Dispatch.lean ====
section
/-!
DEFINITION. The dispatch of a decoded command to its meaning (spec/44_control.md R259), one arm per constructor.
-/

namespace Sys2Proof.Machine

def exec (i : Instr) (s : State) : Host.Outcome State Fault Refusal :=
  match i with
  | .nop => Sys2Proof.Machine.execNop s
  | .hexdec => Sys2Proof.Machine.execHexdec s
  | .parse => Sys2Proof.Machine.execParse s
  | .decrypt => Sys2Proof.Machine.execDecrypt s
  | .extract => Sys2Proof.Machine.execExtract s
  | .extractDirect => Sys2Proof.Machine.execExtractDirect s
  | .crcCcitt => Sys2Proof.Machine.execCrcCcitt s
  | .crcWmbus => Sys2Proof.Machine.execCrcWmbus s
  | .checkTrailer => Sys2Proof.Machine.execCheckTrailer s
  | .checkPcrc => Sys2Proof.Machine.execCheckPcrc s
  | .process => Sys2Proof.Machine.execProcess s
  | .processBin => Sys2Proof.Machine.execProcessBin s
  | .clear => Sys2Proof.Machine.execClear s

end Sys2Proof.Machine
end

