-- ==== Sys2Proof/Machine/Bus.lean ====
section
/-!
DEFINITION. The address map and the registers as the host sees them (spec/20_memory.md R61 to R67).
-/

namespace Sys2Proof.Machine

/-- The offset of a register (20_memory.md R63). -/
def regOffset : RegName → Nat
  | .cmd => 0x000
  | .status => 0x004
  | .errflags => 0x008
  | .inLen => 0x00C
  | .frameLen => 0x010
  | .crcStart => 0x014
  | .crcLen => 0x018
  | .crcResult => 0x01C
  | .keyLen => 0x020
  | .pcrc => 0x024
  | .key0 => 0x030
  | .key1 => 0x034
  | .key2 => 0x038
  | .key3 => 0x03C
  | .hdrL => 0x040
  | .hdrC => 0x044
  | .hdrM => 0x048
  | .hdrA => 0x04C
  | .hdrVer => 0x050
  | .hdrMed => 0x054
  | .hdrCi => 0x058
  | .hdrCc => 0x05C
  | .hdrAcc => 0x060
  | .hdrSn => 0x064
  | .snEnc => 0x068
  | .snTime => 0x06C
  | .snSession => 0x070
  | .payLen => 0x074
  | .trailer => 0x078
  | .iv0 => 0x080
  | .iv1 => 0x084
  | .iv2 => 0x088
  | .iv3 => 0x08C
  | .val0 => 0x090
  | .val1 => 0x094
  | .val2 => 0x098
  | .val3 => 0x09C
  | .ptLen => 0x0A0
  | .valFound => 0x0A4

/-- The register at an aligned offset below the buffers, or none where the offset is unmapped (20_memory.md R63,
R64). -/
def regAt (off : Nat) : Option RegName :=
  match off with
  | 0x000 => some .cmd
  | 0x004 => some .status
  | 0x008 => some .errflags
  | 0x00C => some .inLen
  | 0x010 => some .frameLen
  | 0x014 => some .crcStart
  | 0x018 => some .crcLen
  | 0x01C => some .crcResult
  | 0x020 => some .keyLen
  | 0x024 => some .pcrc
  | 0x030 => some .key0
  | 0x034 => some .key1
  | 0x038 => some .key2
  | 0x03C => some .key3
  | 0x040 => some .hdrL
  | 0x044 => some .hdrC
  | 0x048 => some .hdrM
  | 0x04C => some .hdrA
  | 0x050 => some .hdrVer
  | 0x054 => some .hdrMed
  | 0x058 => some .hdrCi
  | 0x05C => some .hdrCc
  | 0x060 => some .hdrAcc
  | 0x064 => some .hdrSn
  | 0x068 => some .snEnc
  | 0x06C => some .snTime
  | 0x070 => some .snSession
  | 0x074 => some .payLen
  | 0x078 => some .trailer
  | 0x080 => some .iv0
  | 0x084 => some .iv1
  | 0x088 => some .iv2
  | 0x08C => some .iv3
  | 0x090 => some .val0
  | 0x094 => some .val1
  | 0x098 => some .val2
  | 0x09C => some .val3
  | 0x0A0 => some .ptLen
  | 0x0A4 => some .valFound
  | _ => none

/-- What an aligned offset selects (20_memory.md R63, R64, R66). -/
def locate (off : Offset) : Target :=
  let a := off.toNat
  if 0x400 ≤ a ∧ a < 0x600 then .word .inbuf ((a - 0x400) / 4)
  else if 0x600 ≤ a ∧ a < 0x700 then .word .frame ((a - 0x600) / 4)
  else if 0x700 ≤ a ∧ a < 0x800 then .word .pt ((a - 0x700) / 4)
  else
    match regAt a with
    | some n => .reg n
    | none => .unmapped

/-- The word a register reads as: the bits above its width are 0; CMD and KEY0 to KEY3 are write-only and read 0
(20_memory.md R63, R65; 10_state.md R22 to R52). -/
def readReg (n : RegName) (s : State) : Word :=
  match n with
  | .cmd => 0
  | .status => statusWord s
  | .errflags => errflagsWord s
  | .inLen => s.inLen.setWidth 32
  | .frameLen => s.frameLen.setWidth 32
  | .crcStart => s.crcStart.setWidth 32
  | .crcLen => s.crcLen.setWidth 32
  | .crcResult => s.crcResult.setWidth 32
  | .keyLen => s.keyLen.setWidth 32
  | .pcrc => s.pcrc
  | .key0 => 0
  | .key1 => 0
  | .key2 => 0
  | .key3 => 0
  | .hdrL => s.hdr.hdrL.setWidth 32
  | .hdrC => s.hdr.hdrC.setWidth 32
  | .hdrM => s.hdr.hdrM.setWidth 32
  | .hdrA => s.hdr.hdrA
  | .hdrVer => s.hdr.hdrVer.setWidth 32
  | .hdrMed => s.hdr.hdrMed.setWidth 32
  | .hdrCi => s.hdr.hdrCi.setWidth 32
  | .hdrCc => s.hdr.hdrCc.setWidth 32
  | .hdrAcc => s.hdr.hdrAcc.setWidth 32
  | .hdrSn => s.hdr.hdrSn
  | .snEnc => s.hdr.snEnc.setWidth 32
  | .snTime => s.hdr.snTime.setWidth 32
  | .snSession => s.hdr.snSession.setWidth 32
  | .payLen => s.hdr.payLen.setWidth 32
  | .trailer => s.hdr.trailer.setWidth 32
  | .iv0 => le32 s.iv.toList 0
  | .iv1 => le32 s.iv.toList 4
  | .iv2 => le32 s.iv.toList 8
  | .iv3 => le32 s.iv.toList 12
  | .val0 => s.val0
  | .val1 => s.val1
  | .val2 => s.val2
  | .val3 => s.val3
  | .ptLen => s.ptLen.setWidth 32
  | .valFound => s.valFound.setWidth 32

/-- The word a buffer word reads as, little-endian (20_memory.md R66). -/
def readWord (b : Buf) (k : Nat) (s : State) : Word :=
  le32 (bytesAt s (bufBase b + 4 * k) 4) 0

/-- The word an aligned Read returns; an unmapped offset reads 0 (20_memory.md R64, R65, R66). -/
def readTarget (t : Target) (s : State) : Word :=
  match t with
  | .reg n => readReg n s
  | .word b k => readWord b k s
  | .unmapped => 0

/-- KEYi takes a word: KEY[4i+j] = w[8j+7:8j] for j = 0..3 (10_state.md R27). -/
def setKeyWord (i : Fin 4) (w : Word) (s : State) : State :=
  { s with
    key := (((s.key.set (4 * i.val) (w.extractLsb' 0 8)).set (4 * i.val + 1) (w.extractLsb' 8 8)).set (4 * i.val + 2)
      (w.extractLsb' 16 8)).set (4 * i.val + 3) (w.extractLsb' 24 8) }

/-- A host write to a register other than CMD: the registers of R63 that are R/W, W or R/W1C keep the listed bits, a
read-only one discards the write; FRAME_LEN also clears the valid flags (20_memory.md R63, R65, R67; 10_state.md R22
to R27, R37). CMD has no storage (10_state.md R41): what a write to it runs is `serveTxn` of Machine/Port.lean. -/
def writeReg (n : RegName) (w : Word) (s : State) : State :=
  match n with
  | .errflags => clearErrflags w s
  | .inLen => { s with inLen := w.extractLsb' 0 16 }
  | .frameLen => invalidate { s with frameLen := w.extractLsb' 0 16 }
  | .crcStart => { s with crcStart := w.extractLsb' 0 16 }
  | .crcLen => { s with crcLen := w.extractLsb' 0 16 }
  | .keyLen => { s with keyLen := w.extractLsb' 0 8 }
  | .key0 => setKeyWord 0 w s
  | .key1 => setKeyWord 1 w s
  | .key2 => setKeyWord 2 w s
  | .key3 => setKeyWord 3 w s
  | .cmd => s
  | .status => s
  | .crcResult => s
  | .pcrc => s
  | .hdrL => s
  | .hdrC => s
  | .hdrM => s
  | .hdrA => s
  | .hdrVer => s
  | .hdrMed => s
  | .hdrCi => s
  | .hdrCc => s
  | .hdrAcc => s
  | .hdrSn => s
  | .snEnc => s
  | .snTime => s
  | .snSession => s
  | .payLen => s
  | .trailer => s
  | .iv0 => s
  | .iv1 => s
  | .iv2 => s
  | .iv3 => s
  | .val0 => s
  | .val1 => s
  | .val2 => s
  | .val3 => s
  | .ptLen => s
  | .valFound => s

/-- A host write to a buffer word: INBUF stores it, FRAME stores it and clears the valid flags, PT discards it
(20_memory.md R65, R66, R67). -/
def writeWord (b : Buf) (k : Nat) (w : Word) (s : State) : State :=
  match b with
  | .inbuf => { s with mem := Memory.setBytes s.mem (bufBase .inbuf + 4 * k) (wordBytes w) }
  | .frame => invalidate { s with mem := Memory.setBytes s.mem (bufBase .frame + 4 * k) (wordBytes w) }
  | .pt => s

/-- An aligned Write to anything but CMD; to an unmapped offset it is discarded (20_memory.md R64). -/
def writeTarget (t : Target) (w : Word) (s : State) : State :=
  match t with
  | .reg n => writeReg n w s
  | .word b k => writeWord b k w s
  | .unmapped => s

end Sys2Proof.Machine
end

