-- ==== Sys2Proof/Machine/Port.lean ====
section
/-!
DEFINITION. The host port: how the block serves one event (spec/20_memory.md R60 to R69; 70_reset_and_hazards.md R312).
-/

namespace Sys2Proof.Machine

/-- Leaving an answer on the port (log 3). -/
def answer (r : Response) (s : State) : State :=
  { s with response := some r }

/-- A Write of `w` to CMD runs one command, or ends ILLEGAL_COMMAND (30_encoding.md R90, R92; 44_control.md R259). -/
def commandWrite (w : Word) (s : State) : Host.Outcome State Fault Refusal :=
  match decode w with
  | .ok i => exec i s
  | .error e => .next (illegalCommand w e s)

/-- An aligned Write: to CMD it runs a command, to anything else it stores or is discarded (20_memory.md R63 to
R67). -/
def serveWrite (t : Target) (w : Word) (s : State) : Host.Outcome State Fault Refusal :=
  if t = .reg .cmd then commandWrite w s else .next (writeTarget t w s)

/-- One transaction: a misaligned one gets a bus error and changes nothing, a Read returns a word and changes nothing,
a Write is served (20_memory.md R61 to R67). -/
def serveTxn (t : Txn) (s : State) : Host.Outcome State Fault Refusal :=
  match t with
  | .read off =>
    if aligned off then .next (answer (.readData (readTarget (locate off) s)) s)
    else .next (answer (.readBusError 0) s)
  | .write off w =>
    if aligned off then serveWrite (locate off) w (answer .writeDone s)
    else .next (answer .writeBusError s)

/-- Reset: every register takes its reset value, the buffers are unspecified again, and the events the host has
queued stay queued (70_reset_and_hazards.md R310 to R312; log 2, log 9). -/
def applyReset (s : State) : State :=
  { State.reset with pending := s.pending, resets := s.resets + 1 }

/-- One event, taken off the queue first (log 1). -/
def serveEvent (e : Event) (s : State) : Host.Outcome State Fault Refusal :=
  match e with
  | .txn t => serveTxn t s
  | .reset => .next (applyReset s)

/-- The block serves the oldest event of its queue, or waits (20_memory.md R69, R74; 60_exceptions.md R296; log 1,
log 5). -/
def servePending (s : State) : Host.Outcome State Fault Refusal :=
  match s.pending with
  | [] => .next s
  | e :: rest => serveEvent e { s with pending := rest }

/-- Putting an event at the head of the queue, so that it is the next one served. -/
def pushEvent (e : Event) (s : State) : State :=
  { s with pending := e :: s.pending }

/-- Writing a command word to CMD as the next event. -/
def pushCommandWord (w : Word) (s : State) : State :=
  pushEvent (.txn (.write 0x000 w)) s

end Sys2Proof.Machine
end

