-- ==== Sys2Proof/Machine/Step.lean ====
section
/-!
DEFINITION. One step of the machine, and where the host's own check places a command.
-/

namespace Sys2Proof.Machine

/-- One step: the block serves the oldest event of the host's queue (spec/20_memory.md R69, R74). -/
def step (s : State) : Host.Outcome State Fault Refusal :=
  servePending s

/-- The state in which the very next step runs the command word `w`: the host's Write of it to CMD stands at the head
of the queue (30_encoding.md R90; log 1). -/
def State.withFetchWord (s : State) (nbits w : Nat) : State :=
  pushCommandWord (tableWord nbits w) s

end Sys2Proof.Machine
end

