-- ==== Sys2Proof/Machine/HostProgram.lean ====
section
/-!
DEFINITION. Host programs: the transactions each line of spec/30_encoding.md R109 and R110 stands for (log 13).
-/

namespace Sys2Proof.Machine

/-- The offset of a name of a host program line (30_encoding.md R109; 20_memory.md R63). -/
def hostOffset (n : HostName) (k : Nat) : Offset :=
  match n with
  | .reg r => BitVec.ofNat 12 (regOffset r + 4 * k)
  | .buf b => BitVec.ofNat 12 (bufBase b + 4 * k)

/-- The byte strings a host writes as words: padded with 0x00 to a multiple of 4 bytes, four bytes a word
(30_encoding.md R110). -/
def packWords : Bytes → List Word
  | [] => []
  | b0 :: b1 :: b2 :: b3 :: rest => (b3 ++ b2 ++ b1 ++ b0) :: packWords rest
  | b => [le32 b 0]

/-- The Writes of successive words to a buffer, word 0 first (30_encoding.md R110). -/
def loadWords (n : HostName) (ws : List Word) : List Txn :=
  ws.mapIdx fun k w => .write (hostOffset n k) w

/-- The transactions of one host program line. EXPECT is the Read; comparing the word it returns is the host's
(30_encoding.md R109, R110). -/
def expandLine : HostLine → List Txn
  | .wr n k v => [.write (hostOffset n k) v]
  | .rd n k => [.read (hostOffset n k)]
  | .cmd i => [.write (hostOffset (.reg .cmd) 0) (encode i)]
  | .loadHex text =>
    loadWords (.buf .inbuf) (packWords text) ++ [.write (hostOffset (.reg .inLen) 0) (BitVec.ofNat 32 text.length)]
  | .loadFrame bytes =>
    loadWords (.buf .frame) (packWords bytes) ++ [.write (hostOffset (.reg .frameLen) 0) (BitVec.ofNat 32 bytes.length)]
  | .loadKey key =>
    [.write (hostOffset (.reg .key0) 0) (le32 key 0), .write (hostOffset (.reg .key1) 0) (le32 key 4),
     .write (hostOffset (.reg .key2) 0) (le32 key 8), .write (hostOffset (.reg .key3) 0) (le32 key 12),
     .write (hostOffset (.reg .keyLen) 0) 16]
  | .expect n k _ => [.read (hostOffset n k)]

/-- The events of a host program, in order (20_memory.md R74). -/
def programEvents (p : List HostLine) : List Event :=
  (p.flatMap expandLine).map .txn

/-- The state in which a host program waits to be served after what is already queued (log 1). -/
def queueProgram (p : List HostLine) (s : State) : State :=
  { s with pending := s.pending ++ programEvents p }

end Sys2Proof.Machine
end

