-- ==== Sys2Proof/Safety.lean ====
section
/-!
DEFINITION. The terms claims use: the invariant of the block, a run that never stops, what a command leaves of the
memory, and the stages of a pipeline run one command at a time.
-/

namespace Sys2Proof.Safety

open Sys2Proof.Machine

/-- The memory keeps its canonical form (log 2). -/
def memoryOk (s : State) : Prop :=
  Memory.wf s.mem

/-- RESULT and DETAIL hold a pair of spec/60_exceptions.md R282: "No other (RESULT, DETAIL) pair is ever written". -/
def outcomeOk (s : State) : Prop :=
  ∃ p ∈ legalOutcomes, s.result = outcomeCode p.1 ∧ s.detail = p.2

/-- The reserved bits of ERRFLAGS are 0 (10_state.md R37; 93 U4). -/
def errflagsOk (s : State) : Prop :=
  s.errflags &&& ~~~errflagsMask = 0

/-- PAY_LEN and PT_LEN are at most 237 (10_state.md R46; 00_scope.md R7). -/
def lengthsOk (s : State) : Prop :=
  s.hdr.payLen.toNat ≤ 237 ∧ s.ptLen.toNat ≤ 237

/-- SN_ENC, SN_TIME and SN_SESSION are the fields of HDR_SN (10_state.md R45; 30_encoding.md R100). -/
def sessionOk (s : State) : Prop :=
  s.hdr.snEnc = s.hdr.hdrSn.extractLsb' 29 3 ∧ s.hdr.snTime = s.hdr.hdrSn.extractLsb' 4 25 ∧
    s.hdr.snSession = s.hdr.hdrSn.extractLsb' 0 4

/-- The last three bytes of IV are 0: the frame number and the counter of block 0 (30_encoding.md R101). -/
def ivTailOk (s : State) : Prop :=
  s.iv[13] = 0 ∧ s.iv[14] = 0 ∧ s.iv[15] = 0

/-- HDR_VALID means that the header registers and IV are those of the frame that FRAME holds now (10_state.md R28,
R29; 20_memory.md R68). -/
def headerOk (s : State) : Prop :=
  s.hdrValid = true →
    19 ≤ s.frameLen.toNat ∧ s.frameLen.toNat ≤ 256 ∧ s.hdr = parseHeader (frameString s) ∧
      s.iv = deriveIV (frameString s)

/-- PT_VALID means that PT[0:PT_LEN) is a decryption of the payload of the parsed frame, under some 16-byte key, whose
payload CRC matches (10_state.md R28, R30; 44_control.md R264). -/
def plainOk (s : State) : Prop :=
  s.ptValid = true →
    s.hdrValid = true ∧ s.ptLen = s.hdr.payLen ∧ 2 ≤ s.ptLen.toNat ∧ payloadCrcOk (plainText s) = true ∧
      ∃ key : Bytes, key.length = 16 ∧ plainText s = ctrCrypt key (ivPrefix s) (cipherText s)

/-- What VAL0 to VAL3, VAL_FOUND and FMT hold, as a result of Extract (10_state.md R50, R51, R32). -/
def extracted (s : State) : Extraction :=
  { v0 := s.val0, v1 := s.val1, v2 := s.val2, v3 := s.val3, found := s.valFound, format := s.fmt }

/-- DATA_VALID means that the VAL registers hold the extraction of the buffer DSRC names, as that buffer is now; from
PT only of a validated plaintext (10_state.md R31, R33; 44_control.md R264). -/
def dataOk (s : State) : Prop :=
  s.dataValid = true →
    match s.dsrc with
    | .pt => s.ptValid = true ∧ extractFields (plainText s) = .ok (extracted s)
    | .frame => s.frameLen.toNat ≤ 256 ∧ extractFields (frameString s) = .ok (extracted s)

/-- The invariant of the block: it holds after reset and every step keeps it. -/
def BlockInvariant (s : State) : Prop :=
  memoryOk s ∧ outcomeOk s ∧ errflagsOk s ∧ lengthsOk s ∧ sessionOk s ∧ ivTailOk s ∧ headerOk s ∧ plainOk s ∧ dataOk s

/-- A state from which no run stops, whatever its length. -/
def NeverStops (s : State) : Prop :=
  ∀ n, ∃ t, Sys2Proof.core.run n s = .next t

/-- Every byte outside the `n` bytes from offset `a` on reads as before. -/
def keptOutside (s t : State) (a n : Nat) : Prop :=
  ∀ x, ¬ (a ≤ x ∧ x < a + n) → byteAt t x = byteAt s x

/-- Every byte of the buffers reads as before. -/
def memoryKept (s t : State) : Prop :=
  ∀ x, byteAt t x = byteAt s x

/-- The bytes from offset `a` on read as the string `b`. -/
def holds (t : State) (a : Nat) (b : Bytes) : Prop :=
  ∀ i, i < b.length → byteAt t (a + i) = byteOf b i

/-- The state in which the head of the queue has been served with an answer, and nothing else has changed (log 1,
log 3). -/
def served (rest : List Event) (r : Response) (s : State) : State :=
  { s with pending := rest, response := some r }

/-- The 243 reserved opcodes (30_encoding.md R92). -/
def reservedOpcodes : List Nat :=
  [0x06, 0x07] ++ List.range' 0x0C 4 ++ List.range' 0x12 13 ++ List.range' 0x20 224

/-- The aligned offsets that select nothing (20_memory.md R63, R64; 93 U8). -/
def unmappedOffset (off : Offset) : Prop :=
  off.extractLsb' 0 2 = 0 ∧
    ((0x028 ≤ off.toNat ∧ off.toNat ≤ 0x02C) ∨ off.toNat = 0x07C ∨ (0x0A8 ≤ off.toNat ∧ off.toNat ≤ 0x3FC) ∨
      (0x800 ≤ off.toNat ∧ off.toNat ≤ 0xFFC))

/-- The read-only offsets (20_memory.md R63, access R). -/
def readOnlyOffset (off : Offset) : Prop :=
  off.extractLsb' 0 2 = 0 ∧
    (off.toNat = 0x004 ∨ off.toNat = 0x01C ∨ off.toNat = 0x024 ∨ (0x040 ≤ off.toNat ∧ off.toNat ≤ 0x078) ∨
      (0x080 ≤ off.toNat ∧ off.toNat ≤ 0x0A4) ∨ (0x700 ≤ off.toNat ∧ off.toNat ≤ 0x7FC))

/-- The write-only offsets: CMD and KEY0 to KEY3 (20_memory.md R63, access W). -/
def writeOnlyOffset (off : Offset) : Prop :=
  off.toNat = 0x000 ∨ off.toNat = 0x030 ∨ off.toNat = 0x034 ∨ off.toNat = 0x038 ∨ off.toNat = 0x03C

/-- The bits of a register that can read other than 0: the column "width used" (20_memory.md R63). -/
def liveBits : RegName → Word
  | .cmd | .key0 | .key1 | .key2 | .key3 => 0
  | .status | .pcrc | .hdrA | .hdrSn | .iv0 | .iv1 | .iv2 | .iv3 | .val0 | .val1 | .val2 | .val3 => 0xFFFFFFFF
  | .errflags => 0x1FE
  | .inLen | .frameLen | .crcStart | .crcLen | .crcResult | .hdrM | .payLen | .trailer | .ptLen => 0xFFFF
  | .keyLen | .hdrL | .hdrC | .hdrVer | .hdrMed | .hdrCi | .hdrCc | .hdrAcc => 0xFF
  | .snEnc => 0x7
  | .snTime => 0x1FFFFFF
  | .snSession | .valFound => 0xF

/-- Every register of 70_reset_and_hazards.md R310 is at its reset value; the buffers are unconstrained (R311). -/
def registersReset (t : State) : Prop :=
  (t.hdrValid = false ∧ t.ptValid = false ∧ t.dataValid = false ∧ t.fmt = .compact ∧ t.dsrc = .pt) ∧
    (t.result = 0 ∧ t.detail = 0 ∧ t.lastOp = 0 ∧ statusWord t = 0 ∧ t.errflags = 0) ∧
    (t.inLen = 0 ∧ t.frameLen = 0 ∧ t.crcStart = 0 ∧ t.crcLen = 0 ∧ t.keyLen = 0) ∧
    (∀ i : Fin 16, t.key[i] = 0) ∧ t.crcResult = 0 ∧ t.pcrc = 0 ∧
    (t.hdr.hdrL = 0 ∧ t.hdr.hdrC = 0 ∧ t.hdr.hdrVer = 0 ∧ t.hdr.hdrMed = 0 ∧ t.hdr.hdrCi = 0 ∧ t.hdr.hdrCc = 0 ∧
      t.hdr.hdrAcc = 0 ∧ t.hdr.hdrM = 0 ∧ t.hdr.hdrA = 0 ∧ t.hdr.hdrSn = 0 ∧ t.hdr.snEnc = 0 ∧ t.hdr.snTime = 0 ∧
      t.hdr.snSession = 0 ∧ t.hdr.payLen = 0 ∧ t.hdr.trailer = 0) ∧
    (∀ i : Fin 16, t.iv[i] = 0) ∧
    (t.val0 = 0 ∧ t.val1 = 0 ∧ t.val2 = 0 ∧ t.val3 = 0 ∧ t.valFound = 0 ∧ t.ptLen = 0)

/-- A character that is a hex digit: exactly the 22 codes of 30_encoding.md R95. -/
def isHexDigit (c : Byte) : Prop :=
  (0x30 ≤ c.toNat ∧ c.toNat ≤ 0x39) ∨ (0x41 ≤ c.toNat ∧ c.toNat ≤ 0x46) ∨ (0x61 ≤ c.toNat ∧ c.toNat ≤ 0x66)

/-- The value of a hex digit; upper and lower case are equivalent (30_encoding.md R95). -/
def hexValue (c : Byte) : Nat :=
  if c.toNat ≤ 0x39 then c.toNat - 0x30 else if c.toNat ≤ 0x46 then c.toNat - 0x41 + 10 else c.toNat - 0x61 + 10

/-- Commands run one after another, up to the first that does not end OK (44_control.md R261, R264). -/
def runStages : List Instr → State → Host.Outcome State Fault Refusal
  | [], s => .next s
  | i :: is, s =>
    match exec i s with
    | .next t => if t.result = 0 then runStages is t else .next t
    | .fault f => .fault f
    | .refused r => .refused r

/-- The same outcome of a step, with LAST_OP at `op` where it is a next state (10_state.md R36). -/
def withLastOp (op : Byte) : Host.Outcome State Fault Refusal → Host.Outcome State Fault Refusal
  | .next t => .next (latchOp op t)
  | .fault f => .fault f
  | .refused r => .refused r

end Sys2Proof.Safety
end

