-- ==== Sys2Proof/Certificates/Slice0/Obligations.lean ====
section
/-!
DEFINITION. The statements about the block. Each docstring names the rules of spec/ it formalises; a clause that rests
on a choice of the model names the log entry.
-/

open Sys2Proof Sys2Proof.Machine Sys2Proof.Safety

/-! ### Encoding -/

/-- Decoding the word of a command gives the command back (30_encoding.md R90, R91). -/
def Obligations.DecodeOfEncodeIsTheCommand : Prop :=
  ∀ i : Instr, instrWf i = true → decode (encode i) = .ok i

/-- Of all 2^32 words, the decoder reads a command from its encoding alone (30_encoding.md R91, R92, R93). -/
def Obligations.DecodeAcceptsExactlyTheThirteenWords : Prop :=
  ∀ (w : Word) (i : Instr), decode w = .ok i ↔ w = encode i

/-- Words written out from the opcode map decode to the commands they stand for (30_encoding.md R91). -/
def Obligations.WordsOfTheOpcodeMapDecode : Prop :=
  decode 0x00000000 = .ok .nop ∧ decode 0x00000002 = .ok .parse ∧ decode 0x00000003 = .ok .decrypt ∧
    decode 0x00000005 = .ok .extractDirect ∧ decode 0x0000000B = .ok .checkPcrc ∧ decode 0x00000010 = .ok .process ∧
    decode 0x0000001F = .ok .clear ∧ decode 0x00000006 = .error .undefinedOpcode ∧
    decode 0x00000110 = .error .reservedBits

/-- A Write to CMD of a word that is no command ends ILLEGAL_COMMAND, detail 2 for reserved bits whatever the opcode,
else detail 1 for each of the 243 reserved opcodes, and changes RESULT, DETAIL, LAST_OP and ERRFLAGS bit 6 alone
(30_encoding.md R92); the queue and the answer are the model's port (log 1, log 3). -/
def Obligations.IllegalCommandWordsChangeOnlyTheOutcome : Prop :=
  reservedOpcodes.length = 243 ∧
  ∀ (s : State) (w : Word) (rest : List Event), s.pending = .txn (.write 0x000 w) :: rest →
    (w.extractLsb' 8 24 ≠ 0 →
      step s = .next { served rest .writeDone s with
        result := 6, detail := 2, lastOp := w.extractLsb' 0 8, errflags := s.errflags ||| 0x40 }) ∧
    (w.extractLsb' 8 24 = 0 → (w.extractLsb' 0 8).toNat ∈ reservedOpcodes →
      step s = .next { served rest .writeDone s with
        result := 6, detail := 1, lastOp := w.extractLsb' 0 8, errflags := s.errflags ||| 0x40 })

/-! ### The step and the port -/

/-- A step at a Write to CMD of a word that decodes runs the decoded command, on the state in which the transaction has
been taken off the queue and answered (44_control.md R259; log 1, log 3). -/
def Obligations.StepRunsTheDecodedCommand : Prop :=
  ∀ (s : State) (w : Word) (i : Instr) (rest : List Event), s.pending = .txn (.write 0x000 w) :: rest →
    decode w = .ok i → step s = exec i (served rest .writeDone s)

/-- LAST_OP resets to 0x00, stands in STATUS[23:16], and every Write to CMD sets it to bits [7:0] of the word, an
illegal one too; a pipeline leaves its own opcode there (10_state.md R36). -/
def Obligations.EveryCommandWriteLatchesLastOp : Prop :=
  State.reset.lastOp = 0x00 ∧ (∀ s : State, (statusWord s).extractLsb' 16 8 = s.lastOp) ∧
  (∀ (s t : State) (w : Word) (rest : List Event), s.pending = .txn (.write 0x000 w) :: rest →
    step s = .next t → t.lastOp = w.extractLsb' 0 8) ∧
  (∀ s t : State, exec .process s = .next t → t.lastOp = 0x10) ∧
  (∀ s t : State, exec .processBin s = .next t → t.lastOp = 0x11)

/-- With no event queued the block waits and changes nothing (60_exceptions.md R296; log 5). -/
def Obligations.AnIdleBlockKeepsItsState : Prop :=
  ∀ s : State, s.pending = [] → step s = .next s

/-- After reset, and after a reset event in any state, every register is at its reset value (70_reset_and_hazards.md
R310); the buffers are unspecified (R311) and no clause speaks of them. -/
def Obligations.ResetPutsEveryRegisterAtItsValue : Prop :=
  registersReset State.reset ∧
  ∀ (s : State) (rest : List Event), s.pending = .reset :: rest →
    ∃ t, step s = .next t ∧ registersReset t

/-- A misaligned transaction is answered with a bus error, a Read returning 0, and changes no state of the block
(20_memory.md R61); the form of the answer is the model's (log 3). -/
def Obligations.MisalignedTransactionsChangeNoState : Prop :=
  ∀ (s : State) (off : Offset) (w : Word) (rest : List Event), off.extractLsb' 0 2 ≠ 0 →
    (s.pending = .txn (.read off) :: rest → step s = .next (served rest (.readBusError 0x00000000) s)) ∧
    (s.pending = .txn (.write off w) :: rest → step s = .next (served rest .writeBusError s))

/-- An aligned Read returns the word its offset holds and changes no state of the block, and a second Read of the same
offset returns the same word (20_memory.md R62, R67). -/
def Obligations.ReadsHaveNoSideEffect : Prop :=
  (∀ (s : State) (off : Offset) (rest : List Event), off.extractLsb' 0 2 = 0 →
    s.pending = .txn (.read off) :: rest → step s = .next (served rest (.readData (readTarget (locate off) s)) s)) ∧
  (∀ (s : State) (off : Offset) (rest : List Event),
    s.pending = .txn (.read off) :: .txn (.read off) :: rest →
    ∃ t u, step s = .next t ∧ step t = .next u ∧ u.response = t.response)

/-- An aligned Read of an unmapped offset returns 0, an aligned Write to one is discarded, and neither gives a bus error
nor changes any state of the block (20_memory.md R64). -/
def Obligations.UnmappedOffsetsReadZeroAndIgnoreWrites : Prop :=
  ∀ (s : State) (off : Offset) (w : Word) (rest : List Event), unmappedOffset off →
    (s.pending = .txn (.read off) :: rest → step s = .next (served rest (.readData 0x00000000) s)) ∧
    (s.pending = .txn (.write off w) :: rest → step s = .next (served rest .writeDone s))

/-- A Write to a read-only offset is discarded and changes no state of the block; a Read of a write-only offset (CMD,
KEY0 to KEY3) returns 0 and has no side effect (20_memory.md R65). -/
def Obligations.ReadOnlyAndWriteOnlyOffsets : Prop :=
  ∀ (s : State) (off : Offset) (w : Word) (rest : List Event),
    (readOnlyOffset off → s.pending = .txn (.write off w) :: rest → step s = .next (served rest .writeDone s)) ∧
    (writeOnlyOffset off → s.pending = .txn (.read off) :: rest →
      step s = .next (served rest (.readData 0x00000000) s))

/-- Each offset of the map selects its register, and a register reads 0 in every bit above its width (20_memory.md
R63). -/
def Obligations.RegistersReadZeroAboveTheirWidth : Prop :=
  ∀ (s : State) (n : RegName) (off : Offset), off.toNat = regOffset n →
    locate off = .reg n ∧ readTarget (locate off) s = readReg n s ∧ readReg n s &&& ~~~(liveBits n) = 0

/-- A Read of each operand and result register returns that register's value, zero-extended, IVi the four bytes of IV
from 4i on, the lowest index lowest, and changes no state of the block (20_memory.md R63, R67; 10_state.md R22 to R26,
R38, R39, R43 to R48, R50 to R52). STATUS, ERRFLAGS and the write-only offsets have statements of their own. -/
def Obligations.RegisterReadsReturnTheirValues : Prop :=
  ∀ (s : State) (off : Offset) (v : Word) (rest : List Event),
    (off, v) ∈ [((0x00C : Offset), s.inLen.setWidth 32), (0x010, s.frameLen.setWidth 32), (0x014, s.crcStart.setWidth 32),
      (0x018, s.crcLen.setWidth 32), (0x01C, s.crcResult.setWidth 32), (0x020, s.keyLen.setWidth 32), (0x024, s.pcrc),
      (0x040, s.hdr.hdrL.setWidth 32), (0x044, s.hdr.hdrC.setWidth 32), (0x048, s.hdr.hdrM.setWidth 32),
      (0x04C, s.hdr.hdrA), (0x050, s.hdr.hdrVer.setWidth 32), (0x054, s.hdr.hdrMed.setWidth 32),
      (0x058, s.hdr.hdrCi.setWidth 32), (0x05C, s.hdr.hdrCc.setWidth 32), (0x060, s.hdr.hdrAcc.setWidth 32),
      (0x064, s.hdr.hdrSn), (0x068, s.hdr.snEnc.setWidth 32), (0x06C, s.hdr.snTime.setWidth 32),
      (0x070, s.hdr.snSession.setWidth 32), (0x074, s.hdr.payLen.setWidth 32), (0x078, s.hdr.trailer.setWidth 32),
      (0x080, s.iv[3] ++ s.iv[2] ++ s.iv[1] ++ s.iv[0]), (0x084, s.iv[7] ++ s.iv[6] ++ s.iv[5] ++ s.iv[4]),
      (0x088, s.iv[11] ++ s.iv[10] ++ s.iv[9] ++ s.iv[8]), (0x08C, s.iv[15] ++ s.iv[14] ++ s.iv[13] ++ s.iv[12]),
      (0x090, s.val0), (0x094, s.val1), (0x098, s.val2), (0x09C, s.val3), (0x0A0, s.ptLen.setWidth 32),
      (0x0A4, s.valFound.setWidth 32)] →
    s.pending = .txn (.read off) :: rest → step s = .next (served rest (.readData v) s)

/-- A Write to IN_LEN, FRAME_LEN, CRC_START, CRC_LEN or KEY_LEN changes that register alone, FRAME_LEN the three valid
flags too, and a Read returns the listed bits of the word written (10_state.md R22 to R26; 20_memory.md R63, R67). -/
def Obligations.OperandRegistersKeepTheirListedBits : Prop :=
  (∀ (s : State) (off : Offset) (w : Word) (rest : List Event), s.pending = .txn (.write off w) :: rest →
    (off = 0x00C → step s = .next { served rest .writeDone s with inLen := w.extractLsb' 0 16 }) ∧
    (off = 0x010 → step s = .next { served rest .writeDone s with
      frameLen := w.extractLsb' 0 16, hdrValid := false, ptValid := false, dataValid := false }) ∧
    (off = 0x014 → step s = .next { served rest .writeDone s with crcStart := w.extractLsb' 0 16 }) ∧
    (off = 0x018 → step s = .next { served rest .writeDone s with crcLen := w.extractLsb' 0 16 }) ∧
    (off = 0x020 → step s = .next { served rest .writeDone s with keyLen := w.extractLsb' 0 8 })) ∧
  (∀ (s : State) (off : Offset) (m w : Word) (rest : List Event),
    (off, m) ∈ [((0x00C : Offset), (0xFFFF : Word)), (0x010, 0xFFFF), (0x014, 0xFFFF), (0x018, 0xFFFF), (0x020, 0xFF)] →
    s.pending = .txn (.write off w) :: .txn (.read off) :: rest →
    ∃ t u, step s = .next t ∧ step t = .next u ∧ u.response = some (.readData (w &&& m)))

/-- The buffers map to words little-endian: a Read returns the word of the four bytes; a Write to an INBUF or FRAME word
stores its four bytes, and they read back as the word; to a FRAME word it also clears the three valid flags, even when the
bytes do not change; a Write to a PT word is discarded; nothing else changes (20_memory.md R66, R67, R74). -/
def Obligations.BufferWordsAreLittleEndian : Prop :=
  (∀ (s : State) (off : Offset) (rest : List Event), off.extractLsb' 0 2 = 0 → 0x400 ≤ off.toNat → off.toNat < 0x800 →
    s.pending = .txn (.read off) :: rest →
    step s = .next (served rest (.readData (byteAt s (off.toNat + 3) ++ byteAt s (off.toNat + 2) ++
      byteAt s (off.toNat + 1) ++ byteAt s off.toNat)) s)) ∧
  (∀ (s : State) (off : Offset) (w : Word) (rest : List Event), off.extractLsb' 0 2 = 0 →
    s.pending = .txn (.write off w) :: rest →
    (0x400 ≤ off.toNat → off.toNat < 0x600 →
      ∃ t, step s = .next t ∧ t = { served rest .writeDone s with mem := t.mem } ∧
        (∀ j, j < 4 → byteAt t (off.toNat + j) = w.extractLsb' (8 * j) 8) ∧ keptOutside s t off.toNat 4) ∧
    (0x600 ≤ off.toNat → off.toNat < 0x700 →
      ∃ t, step s = .next t ∧
        t = { served rest .writeDone s with mem := t.mem, hdrValid := false, ptValid := false, dataValid := false } ∧
        (∀ j, j < 4 → byteAt t (off.toNat + j) = w.extractLsb' (8 * j) 8) ∧ keptOutside s t off.toNat 4) ∧
    (0x700 ≤ off.toNat → off.toNat < 0x800 → step s = .next (served rest .writeDone s))) ∧
  (∀ (s : State) (off : Offset) (w : Word) (rest : List Event), off.extractLsb' 0 2 = 0 →
    0x400 ≤ off.toNat → off.toNat < 0x700 → s.pending = .txn (.write off w) :: .txn (.read off) :: rest →
    ∃ t u, step s = .next t ∧ step t = .next u ∧ u.response = some (.readData w))

/-- A Write of w to KEYi stores KEY[4i+j] = w[8j+7:8j] for j = 0..3 and changes nothing else: not KEY_LEN, not a valid
flag, not PT; a Read of KEYi returns 0; every byte of KEY resets to 0; no command writes KEY; a step that changes
KEY served a Write to KEY0 to KEY3 or a reset (10_state.md R27). -/
def Obligations.KeyIsWrittenByTheHostAlone : Prop :=
  (∀ (s : State) (i : Fin 4) (off : Offset) (w : Word) (rest : List Event), off.toNat = 0x030 + 4 * i.val →
    s.pending = .txn (.write off w) :: rest →
    ∃ t, step s = .next t ∧ t = { served rest .writeDone s with key := t.key } ∧
      ∀ m : Fin 16, t.key[m] =
        if 4 * i.val ≤ m.val ∧ m.val < 4 * i.val + 4 then w.extractLsb' (8 * (m.val - 4 * i.val)) 8 else s.key[m]) ∧
  (∀ (s : State) (i : Fin 4) (off : Offset) (rest : List Event), off.toNat = 0x030 + 4 * i.val →
    s.pending = .txn (.read off) :: rest → step s = .next (served rest (.readData 0x00000000) s)) ∧
  (∀ m : Fin 16, State.reset.key[m] = 0x00) ∧
  (∀ (i : Instr) (s t : State), exec i s = .next t → t.key = s.key) ∧
  (∀ s t : State, step s = .next t → t.key ≠ s.key →
    ∃ (e : Event) (rest : List Event), s.pending = e :: rest ∧
      (e = .reset ∨ ∃ (off : Offset) (w : Word),
        off ∈ [(0x030 : Offset), 0x034, 0x038, 0x03C] ∧ e = .txn (.write off w)))

/-- No Read of any offset tells one key from another (10_state.md R27; 60_exceptions.md R292). -/
def Obligations.NoReadRevealsTheKey : Prop :=
  ∀ (s : State) (k : Vector Byte 16) (off : Offset) (rest : List Event), s.pending = .txn (.read off) :: rest →
    ∃ t, step s = .next t ∧ step { s with key := k } = .next { t with key := k }

/-- ERRFLAGS: bits outside [8:1] read 0; it resets to 0; a command that ends with a non-OK outcome of code c sets bit c
and no command clears a bit; a Write of w clears every bit i in [8:1] with w[i] = 1 and leaves the others and everything
else; only a Write to ERRFLAGS and reset clear a bit (10_state.md R37). -/
def Obligations.ErrflagsAreStickyAndWriteOneToClear : Prop :=
  (∀ (s : State) (rest : List Event), s.pending = .txn (.read 0x008) :: rest →
    step s = .next (served rest (.readData (s.errflags &&& 0x1FE)) s)) ∧
  State.reset.errflags = 0x00000000 ∧
  (∀ (i : Instr) (s t : State), exec i s = .next t →
    ∀ c, t.errflags.getLsbD c = (s.errflags.getLsbD c || (decide (c ≠ 0) && decide (c = t.result.toNat)))) ∧
  (∀ (s : State) (w : Word) (rest : List Event), s.pending = .txn (.write 0x008 w) :: rest →
    ∃ t, step s = .next t ∧ t = { served rest .writeDone s with errflags := t.errflags } ∧
      ∀ i, t.errflags.getLsbD i = (s.errflags.getLsbD i && !(decide (1 ≤ i) && decide (i ≤ 8) && w.getLsbD i))) ∧
  (∀ (s t : State) (i : Nat), step s = .next t → s.errflags.getLsbD i = true → t.errflags.getLsbD i = false →
    ∃ (e : Event) (rest : List Event), s.pending = e :: rest ∧ (e = .reset ∨ ∃ w, e = .txn (.write 0x008 w)))

/-- STATUS: its layout, its reset value, its offset, and a host Write to it ignored (10_state.md R28). -/
def Obligations.StatusHasItsLayout : Prop :=
  (∀ s : State,
    (statusWord s).getLsbD 0 = s.hdrValid ∧ (statusWord s).getLsbD 1 = s.ptValid ∧
    (statusWord s).getLsbD 2 = s.dataValid ∧ (statusWord s).getLsbD 3 = decide (s.fmt = .full) ∧
    (statusWord s).getLsbD 4 = decide (s.dsrc = .frame) ∧ (statusWord s).extractLsb' 5 3 = 0 ∧
    (statusWord s).extractLsb' 8 4 = s.result ∧ (statusWord s).extractLsb' 12 4 = s.detail ∧
    (statusWord s).extractLsb' 16 8 = s.lastOp ∧ (statusWord s).extractLsb' 24 8 = 0) ∧
  statusWord State.reset = 0x00000000 ∧
  (∀ (s : State) (rest : List Event), s.pending = .txn (.read 0x004) :: rest →
    step s = .next (served rest (.readData (statusWord s)) s)) ∧
  (∀ (s : State) (w : Word) (rest : List Event), s.pending = .txn (.write 0x004 w) :: rest →
    step s = .next (served rest .writeDone s))

/-! ### NOP and CLEAR -/

/-- NOP ends OK(0) and writes RESULT, DETAIL and LAST_OP, nothing else (44_control.md R260). -/
def Obligations.NopRecordsOkAndNothingElse : Prop :=
  ∀ s : State, exec .nop s = .next { s with result := 0, detail := 0, lastOp := 0x00 }

/-- CLEAR ends OK(0) with the decoded and result registers and the flags zeroed and everything else as it was
(44_control.md R263). -/
def Obligations.ClearZeroesTheDecodedState : Prop :=
  ∀ s : State, ∃ t, exec .clear s = .next t ∧
    t = { s with
      hdrValid := false, ptValid := false, dataValid := false, fmt := .compact, dsrc := .pt, hdr := t.hdr, iv := t.iv,
      val0 := 0, val1 := 0, val2 := 0, val3 := 0, valFound := 0, ptLen := 0, crcResult := 0, pcrc := 0,
      result := 0, detail := 0, lastOp := 0x1F } ∧
    (t.hdr.hdrL = 0 ∧ t.hdr.hdrC = 0 ∧ t.hdr.hdrM = 0 ∧ t.hdr.hdrA = 0 ∧ t.hdr.hdrVer = 0 ∧ t.hdr.hdrMed = 0 ∧
      t.hdr.hdrCi = 0 ∧ t.hdr.hdrCc = 0 ∧ t.hdr.hdrAcc = 0 ∧ t.hdr.hdrSn = 0 ∧ t.hdr.snEnc = 0 ∧ t.hdr.snTime = 0 ∧
      t.hdr.snSession = 0 ∧ t.hdr.payLen = 0 ∧ t.hdr.trailer = 0) ∧
    (∀ i : Fin 16, t.iv[i] = 0) ∧ memoryKept s t

/-! ### HEXDEC and PARSE -/

/-- HexDecode: an odd length fails with 1 before any digit is looked at, then a character that is no digit fails with 2,
else byte i is 16 digit(T[2i]) + digit(T[2i+1]); the digits are the 22 codes of R95 (41_frame_parser.md R160). -/
def Obligations.HexDecodeReadsDigitPairs : Prop :=
  ∀ t : Bytes,
    (t.length % 2 = 1 → hexDecode t = .error 1) ∧
    (t.length % 2 = 0 → (∃ c ∈ t, ¬ isHexDigit c) → hexDecode t = .error 2) ∧
    (t.length % 2 = 0 → (∀ c ∈ t, isHexDigit c) →
      ∃ b, hexDecode t = .ok b ∧ b.length = t.length / 2 ∧
        ∀ i, i < b.length → (byteOf b i).toNat = 16 * hexValue (byteOf t (2 * i)) + hexValue (byteOf t (2 * i + 1)))

/-- HEXDEC of a text that decodes ends OK(0): FRAME[0:n/2) takes the bytes, FRAME_LEN the count, the three valid flags
are cleared, and nothing else changes (41_frame_parser.md R161). -/
def Obligations.HexdecStoresTheDecodedBytes : Prop :=
  ∀ (s : State) (r : Bytes), s.inLen.toNat ≤ 512 → hexDecode (inText s) = .ok r →
    ∃ t, exec .hexdec s = .next t ∧
      t = { s with
        mem := t.mem, frameLen := BitVec.ofNat 16 (s.inLen.toNat / 2), hdrValid := false, ptValid := false,
        dataValid := false, result := 0, detail := 0, lastOp := 0x01 } ∧
      r.length = s.inLen.toNat / 2 ∧ holds t 0x600 r ∧ keptOutside s t 0x600 r.length

/-- HEXDEC of a text that is too long, of odd length or with a bad digit ends PARSE_ERROR(3), (1) or (2), and PARSE of a
frame above 256 or below 19 bytes PARSE_ERROR(5) or (4): the valid flags are cleared, and FRAME, FRAME_LEN, the header
registers and the rest stay (41_frame_parser.md R161, R164; 10_state.md R42). -/
def Obligations.ParseErrorsClearOnlyTheValidFlags : Prop :=
  ∀ s : State,
    (512 < s.inLen.toNat → exec .hexdec s = .next { s with
      hdrValid := false, ptValid := false, dataValid := false, result := 1, detail := 3, lastOp := 0x01,
      errflags := s.errflags ||| 0x2 }) ∧
    (s.inLen.toNat ≤ 512 → ∀ d, hexDecode (inText s) = .error d → exec .hexdec s = .next { s with
      hdrValid := false, ptValid := false, dataValid := false, result := 1, detail := d, lastOp := 0x01,
      errflags := s.errflags ||| 0x2 }) ∧
    (256 < s.frameLen.toNat → exec .parse s = .next { s with
      hdrValid := false, ptValid := false, dataValid := false, result := 1, detail := 5, lastOp := 0x02,
      errflags := s.errflags ||| 0x2 }) ∧
    (s.frameLen.toNat < 19 → exec .parse s = .next { s with
      hdrValid := false, ptValid := false, dataValid := false, result := 1, detail := 4, lastOp := 0x02,
      errflags := s.errflags ||| 0x2 })

/-- PARSE of a frame of 19 to 256 bytes ends OK(0): every header register, PAY_LEN, TRAILER and IV takes its bytes of
FRAME, HDR_VALID is set, the other valid flags are cleared, and nothing else changes; no header value is checked
(41_frame_parser.md R162 to R166; 30_encoding.md R96, R100, R101). -/
def Obligations.ParseWritesEveryHeaderRegister : Prop :=
  ∀ s : State, 19 ≤ s.frameLen.toNat → s.frameLen.toNat ≤ 256 →
    ∃ t, exec .parse s = .next t ∧
      t = { s with
        hdr := t.hdr, iv := t.iv, hdrValid := true, ptValid := false, dataValid := false, result := 0, detail := 0,
        lastOp := 0x02 } ∧ memoryKept s t ∧
      (t.hdr.hdrL = byteAt s 0x600 ∧ t.hdr.hdrC = byteAt s 0x601 ∧ t.hdr.hdrVer = byteAt s 0x608 ∧
        t.hdr.hdrMed = byteAt s 0x609 ∧ t.hdr.hdrCi = byteAt s 0x60A ∧ t.hdr.hdrCc = byteAt s 0x60B ∧
        t.hdr.hdrAcc = byteAt s 0x60C ∧ t.hdr.hdrM = byteAt s 0x603 ++ byteAt s 0x602 ∧
        t.hdr.hdrA = byteAt s 0x607 ++ byteAt s 0x606 ++ byteAt s 0x605 ++ byteAt s 0x604 ∧
        t.hdr.hdrSn = byteAt s 0x610 ++ byteAt s 0x60F ++ byteAt s 0x60E ++ byteAt s 0x60D ∧
        t.hdr.snEnc = t.hdr.hdrSn.extractLsb' 29 3 ∧ t.hdr.snTime = t.hdr.hdrSn.extractLsb' 4 25 ∧
        t.hdr.snSession = t.hdr.hdrSn.extractLsb' 0 4 ∧ t.hdr.payLen.toNat = s.frameLen.toNat - 19 ∧
        t.hdr.trailer = byteAt s (0x600 + s.frameLen.toNat - 1) ++ byteAt s (0x600 + s.frameLen.toNat - 2)) ∧
      t.iv.toList = [byteAt s 0x602, byteAt s 0x603, byteAt s 0x604, byteAt s 0x605, byteAt s 0x606, byteAt s 0x607,
        byteAt s 0x608, byteAt s 0x609, byteAt s 0x60B, byteAt s 0x60D, byteAt s 0x60E, byteAt s 0x60F, byteAt s 0x610,
        0x00, 0x00, 0x00]

/-! ### AES-128, counter mode and DECRYPT -/

/-- The S-box table is the affine map of the inverse in GF(2^8), inv(0) = 0 (42_decrypt.md R191, which the spec marks as
general knowledge and not its source's: PRESUMED, log 8). -/
def Obligations.SboxIsTheAffineMapOfTheInverse : Prop :=
  sbox 0 = sboxAffine 0 ∧ ∀ a : Byte, a ≠ 0 → ∃ b, gfMul a b = 1 ∧ sbox a = sboxAffine b

/-- Known answers: the two anchors of the AES-128 forward cipher (42_decrypt.md R198, which the spec marks as general
knowledge and not its source's: PRESUMED, log 8), and the check values of both CRCs for the text 123456789 and their
values of the empty string (40_crc.md R131, R135, R139, R140; both check values are general knowledge too, and the
WMBUS16 values rest on the initial value and final xor that R135 gives as the spec's own inference: DEDUCED, log 14). -/
def Obligations.AesAndCrcKnownAnswers : Prop :=
  aes128Encrypt
      [0x00, 0x01, 0x02, 0x03, 0x04, 0x05, 0x06, 0x07, 0x08, 0x09, 0x0A, 0x0B, 0x0C, 0x0D, 0x0E, 0x0F]
      [0x00, 0x11, 0x22, 0x33, 0x44, 0x55, 0x66, 0x77, 0x88, 0x99, 0xAA, 0xBB, 0xCC, 0xDD, 0xEE, 0xFF] =
    [0x69, 0xC4, 0xE0, 0xD8, 0x6A, 0x7B, 0x04, 0x30, 0xD8, 0xCD, 0xB7, 0x80, 0x70, 0xB4, 0xC5, 0x5A] ∧
  aes128Encrypt
      [0x2B, 0x7E, 0x15, 0x16, 0x28, 0xAE, 0xD2, 0xA6, 0xAB, 0xF7, 0x15, 0x88, 0x09, 0xCF, 0x4F, 0x3C]
      [0x32, 0x43, 0xF6, 0xA8, 0x88, 0x5A, 0x30, 0x8D, 0x31, 0x31, 0x98, 0xA2, 0xE0, 0x37, 0x07, 0x34] =
    [0x39, 0x25, 0x84, 0x1D, 0x02, 0xDC, 0x09, 0xFB, 0xDC, 0x11, 0x85, 0x97, 0x19, 0x6A, 0x0B, 0x32] ∧
  ccitt16 [0x31, 0x32, 0x33, 0x34, 0x35, 0x36, 0x37, 0x38, 0x39] = 0x906E ∧
  wmbus16 [0x31, 0x32, 0x33, 0x34, 0x35, 0x36, 0x37, 0x38, 0x39] = 0xC2B7 ∧
  ccitt16 [] = 0x0000 ∧ wmbus16 [] = 0xFFFF

/-- CtrCrypt returns a string of the same length whose byte 16k+j is C[16k+j] xor byte j of the encryption of the
prefix and the big-endian block counter k (42_decrypt.md R199). That a partial last block takes the leading bytes of its
keystream block, and the cipher itself, are what the spec marks as general knowledge and not its source's: PRESUMED,
log 8. -/
def Obligations.CtrCryptXorsTheKeystream : Prop :=
  ∀ key iv14 c : Bytes, key.length = 16 → iv14.length = 14 →
    (ctrCrypt key iv14 c).length = c.length ∧
    ∀ k j, j < 16 → 16 * k + j < c.length →
      byteOf (ctrCrypt key iv14 c) (16 * k + j) =
        byteOf c (16 * k + j) ^^^
          byteOf (aes128Encrypt key (iv14 ++ [(BitVec.ofNat 16 k).extractLsb' 8 8, (BitVec.ofNat 16 k).extractLsb' 0 8])) j

/-- Counter mode undoes itself: one and the same function encrypts and decrypts (42_decrypt.md R190, R199; the
cipher and the partial last block are PRESUMED, log 8). -/
def Obligations.CtrCryptIsItsOwnInverse : Prop :=
  ∀ key iv14 c : Bytes, key.length = 16 → ctrCrypt key iv14 (ctrCrypt key iv14 c) = c

/-- DECRYPT of a parsed frame, with a 16-byte key, whose plaintext passes the CRC ends OK(0): PT[0:n), PT_LEN, PT_VALID
and PCRC are written, and nothing else changes (42_decrypt.md R201, R203). -/
def Obligations.DecryptPublishesAMatchingPlaintext : Prop :=
  ∀ (s : State) (p : Bytes), p = ctrCrypt (keyString s) (ivPrefix s) (cipherText s) →
    s.hdrValid = true → s.keyLen.toNat = 16 → s.ptValid = false → 2 ≤ s.hdr.payLen.toNat → s.hdr.payLen.toNat ≤ 237 →
    wmbus16 (p.drop 2) = byteOf p 1 ++ byteOf p 0 →
    ∃ t, exec .decrypt s = .next t ∧
      t = { s with
        mem := t.mem, ptLen := s.hdr.payLen, ptValid := true, pcrc := (byteOf p 1 ++ byteOf p 0) ++ wmbus16 (p.drop 2),
        result := 0, detail := 0, lastOp := 0x03 } ∧
      p.length = s.hdr.payLen.toNat ∧ holds t 0x700 p ∧ keptOutside s t 0x700 p.length

/-- DECRYPT's failures, in the order of their tests, with all that each one changes; in particular a CRC mismatch writes
PCRC alone beside the outcome, and publishes no plaintext (42_decrypt.md R201, R203, R205; 60_exceptions.md R288). -/
def Obligations.DecryptFailuresPublishNothing : Prop :=
  ∀ (s : State) (p : Bytes), p = ctrCrypt (keyString s) (ivPrefix s) (cipherText s) →
    (s.hdrValid = false → exec .decrypt s = .next { s with
      result := 7, detail := 1, lastOp := 0x03, errflags := s.errflags ||| 0x80 }) ∧
    (s.hdrValid = true → s.keyLen = 0 → exec .decrypt s = .next { s with
      result := 2, detail := 1, lastOp := 0x03, errflags := s.errflags ||| 0x4 }) ∧
    (s.hdrValid = true → s.keyLen ≠ 0 → s.keyLen ≠ 16 → exec .decrypt s = .next { s with
      result := 2, detail := 2, lastOp := 0x03, errflags := s.errflags ||| 0x4 }) ∧
    (s.hdrValid = true → s.keyLen = 16 → s.ptValid = false → s.hdr.payLen.toNat < 2 → exec .decrypt s = .next { s with
      result := 3, detail := 2, lastOp := 0x03, errflags := s.errflags ||| 0x8 }) ∧
    (s.hdrValid = true → s.keyLen = 16 → s.ptValid = false → 2 ≤ s.hdr.payLen.toNat → s.hdr.payLen.toNat ≤ 237 →
      wmbus16 (p.drop 2) ≠ byteOf p 1 ++ byteOf p 0 → exec .decrypt s = .next { s with
        pcrc := (byteOf p 1 ++ byteOf p 0) ++ wmbus16 (p.drop 2),
        result := 3, detail := 1, lastOp := 0x03, errflags := s.errflags ||| 0x8 })

/-- A DECRYPT while PT_VALID = 1 that passes the header and key checks ends OK(1) and writes nothing but the outcome,
whatever the key is (42_decrypt.md R202). -/
def Obligations.DecryptOfADecryptedFrameIsANoOp : Prop :=
  ∀ s : State, s.hdrValid = true → s.keyLen = 16 → s.ptValid = true →
    exec .decrypt s = .next { s with result := 0, detail := 1, lastOp := 0x03 }

/-- The two stops of the model, which no reachable state meets: DECRYPT with a PAY_LEN whose payload would leave FRAME,
EXTRACT with a PT_LEN above 256. The model's choice where 20_memory.md R70 says it never happens (log 4). -/
def Obligations.ImpossibleLengthsFault : Prop :=
  (∀ s : State, s.hdrValid = true → s.keyLen = 16 → s.ptValid = false → 239 < s.hdr.payLen.toNat →
    exec .decrypt s = .fault .bufferOverrun) ∧
  (∀ s : State, s.ptValid = true → 256 < s.ptLen.toNat → exec .extract s = .fault .bufferOverrun)

/-! ### Extraction -/

/-- ScanField answers the little-endian word after the first match from index 3 on whose value bytes lie inside the
payload, and nothing where there is no such match (43_extract.md R234). -/
def Obligations.ScanFieldTakesTheFirstMatch : Prop :=
  ∀ p pat : Bytes,
    (∀ i, 3 ≤ i → i + pat.length + 4 ≤ p.length → slice p i (i + pat.length) = pat →
      (∀ k, 3 ≤ k → k < i → slice p k (k + pat.length) ≠ pat) →
      scanField p pat = some (byteOf p (i + pat.length + 3) ++ byteOf p (i + pat.length + 2) ++
        byteOf p (i + pat.length + 1) ++ byteOf p (i + pat.length))) ∧
    ((∀ i, 3 ≤ i → i + pat.length + 4 ≤ p.length → slice p i (i + pat.length) ≠ pat) → scanField p pat = none)

/-- Extract, by the length and the CI byte: too short, compact and short, compact, full, any other CI (43_extract.md
R230 to R233, R235; 30_encoding.md R103, R104, R106; the spec's own inference of the patterns: log 14). -/
def Obligations.ExtractReadsBothPayloadShapes : Prop :=
  ∀ p : Bytes,
    (p.length < 3 → extractFields p = .error 2) ∧
    (3 ≤ p.length → byteOf p 2 ≠ 0x79 → byteOf p 2 ≠ 0x78 → extractFields p = .error 1) ∧
    (3 ≤ p.length → p.length < 23 → byteOf p 2 = 0x79 → extractFields p = .error 3) ∧
    (23 ≤ p.length → byteOf p 2 = 0x79 → extractFields p = .ok
      { v0 := byteOf p 10 ++ byteOf p 9 ++ byteOf p 8 ++ byteOf p 7
        v1 := byteOf p 14 ++ byteOf p 13 ++ byteOf p 12 ++ byteOf p 11
        v2 := byteOf p 18 ++ byteOf p 17 ++ byteOf p 16 ++ byteOf p 15
        v3 := byteOf p 22 ++ byteOf p 21 ++ byteOf p 20 ++ byteOf p 19
        found := 0xF, format := .compact }) ∧
    (3 ≤ p.length → byteOf p 2 = 0x78 →
      ∃ x, extractFields p = .ok x ∧ x.format = .full ∧
        x.v0 = (scanField p [0x04, 0x04]).getD 0 ∧ x.found.getLsbD 0 = (scanField p [0x04, 0x04]).isSome ∧
        x.v1 = (scanField p [0x04, 0x84, 0x3C]).getD 0 ∧ x.found.getLsbD 1 = (scanField p [0x04, 0x84, 0x3C]).isSome ∧
        x.v2 = (scanField p [0x04, 0x2B]).getD 0 ∧ x.found.getLsbD 2 = (scanField p [0x04, 0x2B]).isSome ∧
        x.v3 = (scanField p [0x04, 0xAB, 0x3C]).getD 0 ∧ x.found.getLsbD 3 = (scanField p [0x04, 0xAB, 0x3C]).isSome)

/-- EXTRACT of a validated plaintext ends OK(0) with the tuple and DSRC = 0, or NO_DATA(d) with DATA_VALID cleared and
nothing else; without a validated plaintext it ends SEQUENCE_ERROR(2) and keeps DATA_VALID (43_extract.md R235,
R236). -/
def Obligations.ExtractWritesTheTupleOfThePlaintext : Prop :=
  ∀ s : State,
    (∀ x, s.ptValid = true → s.ptLen.toNat ≤ 256 → extractFields (plainText s) = .ok x →
      exec .extract s = .next { s with
        val0 := x.v0, val1 := x.v1, val2 := x.v2, val3 := x.v3, valFound := x.found, fmt := x.format, dsrc := .pt,
        dataValid := true, result := 0, detail := 0, lastOp := 0x04 }) ∧
    (∀ d, s.ptValid = true → s.ptLen.toNat ≤ 256 → extractFields (plainText s) = .error d →
      exec .extract s = .next { s with
        dataValid := false, result := 4, detail := d, lastOp := 0x04, errflags := s.errflags ||| 0x10 }) ∧
    (s.ptValid = false → exec .extract s = .next { s with
      result := 7, detail := 2, lastOp := 0x04, errflags := s.errflags ||| 0x80 })

/-- EXTRACT_DIRECT of FRAME[0:FRAME_LEN) ends OK(0) with the tuple and DSRC = 1, or NO_DATA(d) with DATA_VALID cleared
and nothing else; a FRAME_LEN above 256 ends RANGE_ERROR(2) and keeps DATA_VALID (43_extract.md R235, R237). -/
def Obligations.ExtractDirectWritesTheTupleOfTheFrame : Prop :=
  ∀ s : State,
    (∀ x, s.frameLen.toNat ≤ 256 → extractFields (frameString s) = .ok x →
      exec .extractDirect s = .next { s with
        val0 := x.v0, val1 := x.v1, val2 := x.v2, val3 := x.v3, valFound := x.found, fmt := x.format, dsrc := .frame,
        dataValid := true, result := 0, detail := 0, lastOp := 0x05 }) ∧
    (∀ d, s.frameLen.toNat ≤ 256 → extractFields (frameString s) = .error d →
      exec .extractDirect s = .next { s with
        dataValid := false, result := 4, detail := d, lastOp := 0x05, errflags := s.errflags ||| 0x10 }) ∧
    (256 < s.frameLen.toNat → exec .extractDirect s = .next { s with
      result := 8, detail := 2, lastOp := 0x05, errflags := s.errflags ||| 0x100 })

/-! ### CRC engines -/

/-- CRC_CCITT and CRC_WMBUS over a window inside the frame end OK(0) and write CRC_RESULT alone beside the outcome
(40_crc.md R138, R139, R140). -/
def Obligations.CrcCommandsWriteTheWindowCrc : Prop :=
  ∀ s : State, s.frameLen.toNat ≤ 256 → s.crcStart.toNat + s.crcLen.toNat ≤ s.frameLen.toNat →
    exec .crcCcitt s = .next { s with
      crcResult := ccitt16 (bytesAt s (0x600 + s.crcStart.toNat) s.crcLen.toNat),
      result := 0, detail := 0, lastOp := 0x08 } ∧
    exec .crcWmbus s = .next { s with
      crcResult := wmbus16 (bytesAt s (0x600 + s.crcStart.toNat) s.crcLen.toNat),
      result := 0, detail := 0, lastOp := 0x09 }

/-- CRC_CCITT, CRC_WMBUS and CHECK_PCRC with FRAME_LEN above 256 end RANGE_ERROR(2), else with a window that leaves the
frame RANGE_ERROR(1), and write nothing but the outcome (40_crc.md R138; 60_exceptions.md R288). -/
def Obligations.CrcWindowOutsideTheFrameIsRefused : Prop :=
  ∀ (s : State) (i : Instr), i ∈ [Instr.crcCcitt, Instr.crcWmbus, Instr.checkPcrc] →
    (256 < s.frameLen.toNat → exec i s = .next { s with
      result := 8, detail := 2, lastOp := opcodeOf i, errflags := s.errflags ||| 0x100 }) ∧
    (s.frameLen.toNat ≤ 256 → s.frameLen.toNat < s.crcStart.toNat + s.crcLen.toNat → exec i s = .next { s with
      result := 8, detail := 1, lastOp := opcodeOf i, errflags := s.errflags ||| 0x100 })

/-- CHECK_TRAILER: the CCITT16 of FRAME[1:N-2) goes to CRC_RESULT whatever the comparison says; OK(0) when the last two
bytes are its low byte and its high byte, else TRX_CRC_MISMATCH(1); N above 256 and N below 3 are RANGE_ERROR(2) and (3)
(40_crc.md R132, R141). -/
def Obligations.CheckTrailerComparesTheLastTwoBytes : Prop :=
  ∀ (s : State) (n : Nat) (c : Half), n = s.frameLen.toNat → c = ccitt16 (bytesAt s 0x601 (n - 3)) →
    (3 ≤ n → n ≤ 256 → byteAt s (0x600 + n - 2) = c.extractLsb' 0 8 → byteAt s (0x600 + n - 1) = c.extractLsb' 8 8 →
      exec .checkTrailer s = .next { s with crcResult := c, result := 0, detail := 0, lastOp := 0x0A }) ∧
    (3 ≤ n → n ≤ 256 → ¬ (byteAt s (0x600 + n - 2) = c.extractLsb' 0 8 ∧ byteAt s (0x600 + n - 1) = c.extractLsb' 8 8) →
      exec .checkTrailer s = .next { s with
        crcResult := c, result := 5, detail := 1, lastOp := 0x0A, errflags := s.errflags ||| 0x20 }) ∧
    (256 < n → exec .checkTrailer s = .next { s with
      result := 8, detail := 2, lastOp := 0x0A, errflags := s.errflags ||| 0x100 }) ∧
    (n < 3 → exec .checkTrailer s = .next { s with
      result := 8, detail := 3, lastOp := 0x0A, errflags := s.errflags ||| 0x100 })

/-- CHECK_PCRC over a window of at least 2 bytes inside the frame writes CRC_RESULT and PCRC and ends OK(0) when the
WMBUS16 after the first two bytes is their little-endian value, else CRC_MISMATCH(1); a shorter window is
RANGE_ERROR(3) (40_crc.md R137, R142). -/
def Obligations.CheckPcrcValidatesTheWindow : Prop :=
  ∀ (s : State) (w : Bytes), w = bytesAt s (0x600 + s.crcStart.toNat) s.crcLen.toNat →
    s.frameLen.toNat ≤ 256 → s.crcStart.toNat + s.crcLen.toNat ≤ s.frameLen.toNat →
    (2 ≤ s.crcLen.toNat → wmbus16 (w.drop 2) = byteOf w 1 ++ byteOf w 0 → exec .checkPcrc s = .next { s with
      crcResult := wmbus16 (w.drop 2), pcrc := (byteOf w 1 ++ byteOf w 0) ++ wmbus16 (w.drop 2),
      result := 0, detail := 0, lastOp := 0x0B }) ∧
    (2 ≤ s.crcLen.toNat → wmbus16 (w.drop 2) ≠ byteOf w 1 ++ byteOf w 0 → exec .checkPcrc s = .next { s with
      crcResult := wmbus16 (w.drop 2), pcrc := (byteOf w 1 ++ byteOf w 0) ++ wmbus16 (w.drop 2),
      result := 3, detail := 1, lastOp := 0x0B, errflags := s.errflags ||| 0x8 }) ∧
    (s.crcLen.toNat < 2 → exec .checkPcrc s = .next { s with
      result := 8, detail := 3, lastOp := 0x0B, errflags := s.errflags ||| 0x100 })

/-- A payload that passes the CRC check fails it after any change of one of its bytes: with probability exactly 1, not
just practically 1 (42_decrypt.md R206). -/
def Obligations.AnyChangedByteBreaksThePayloadCrc : Prop :=
  ∀ (p : Bytes) (k : Nat) (b : Byte), 2 ≤ p.length → k < p.length → b ≠ byteOf p k → payloadCrcOk p = true →
    payloadCrcOk (p.set k b) = false

/-! ### The pipelines -/

/-- PROCESS is HEXDEC, PARSE, DECRYPT and EXTRACT, and PROCESS_BIN is PARSE, DECRYPT and EXTRACT, run as commands one after
another up to the first non-OK outcome, with LAST_OP at the pipeline's own opcode: a pipeline has the effects, the
outcome and the error flag of the last of its stages that ran (44_control.md R261, R262, R264). -/
def Obligations.PipelinesAreTheirStagesInOrder : Prop :=
  ∀ s : State,
    exec .process s = withLastOp 0x10 (runStages [.hexdec, .parse, .decrypt, .extract] s) ∧
    exec .processBin s = withLastOp 0x11 (runStages [.parse, .decrypt, .extract] s)

/-- PROCESS of a text that decodes to a telegram r, with a 16-byte key under which the payload passes its CRC and has a
known shape, ends OK(0): the whole next state (44_control.md R261). -/
def Obligations.ProcessDecodesATelegram : Prop :=
  ∀ (s : State) (r p : Bytes) (x : Extraction), s.inLen.toNat ≤ 512 → hexDecode (inText s) = .ok r → 21 ≤ r.length →
    s.keyLen = 16 → p = ctrCrypt (keyString s) ((deriveIV r).toList.take 14) (slice r 17 (r.length - 2)) →
    payloadCrcOk p = true → extractFields p = .ok x →
    ∃ t, exec .process s = .next t ∧
      t = { s with
        mem := t.mem, frameLen := BitVec.ofNat 16 r.length, hdr := parseHeader r, iv := deriveIV r,
        hdrValid := true, ptValid := true, dataValid := true, fmt := x.format, dsrc := .pt,
        val0 := x.v0, val1 := x.v1, val2 := x.v2, val3 := x.v3, valFound := x.found,
        ptLen := BitVec.ofNat 16 (r.length - 19), pcrc := pcrcWord p, result := 0, detail := 0, lastOp := 0x10 } ∧
      holds t 0x600 r ∧ holds t 0x700 p ∧
      ∀ y, ¬ (0x600 ≤ y ∧ y < 0x600 + r.length) → ¬ (0x700 ≤ y ∧ y < 0x700 + p.length) → byteAt t y = byteAt s y

/-- PROCESS_BIN of such a telegram in FRAME ends OK(0): the whole next state (44_control.md R262). -/
def Obligations.ProcessBinDecodesATelegram : Prop :=
  ∀ (s : State) (r p : Bytes) (x : Extraction), r = frameString s → 21 ≤ s.frameLen.toNat → s.frameLen.toNat ≤ 256 →
    s.keyLen = 16 → p = ctrCrypt (keyString s) ((deriveIV r).toList.take 14) (slice r 17 (r.length - 2)) →
    payloadCrcOk p = true → extractFields p = .ok x →
    ∃ t, exec .processBin s = .next t ∧
      t = { s with
        mem := t.mem, hdr := parseHeader r, iv := deriveIV r,
        hdrValid := true, ptValid := true, dataValid := true, fmt := x.format, dsrc := .pt,
        val0 := x.v0, val1 := x.v1, val2 := x.v2, val3 := x.v3, valFound := x.found,
        ptLen := BitVec.ofNat 16 (r.length - 19), pcrc := pcrcWord p, result := 0, detail := 0, lastOp := 0x11 } ∧
      holds t 0x700 p ∧ keptOutside s t 0x700 p.length

/-- A telegram that PROCESS_BIN decrypts is refused with CRC_MISMATCH(1), and no plaintext is published, after any change
of one byte of its ciphertext (42_decrypt.md R206; 44_control.md R262). -/
def Obligations.ATamperedTelegramIsRefused : Prop :=
  ∀ (s s' t : State) (j : Nat), exec .processBin s = .next t → t.ptValid = true →
    s' = { s with mem := s'.mem } → 17 ≤ j → j + 2 < s.frameLen.toNat →
    byteAt s' (0x600 + j) ≠ byteAt s (0x600 + j) → (∀ a, a ≠ 0x600 + j → byteAt s' a = byteAt s a) →
    ∃ t', exec .processBin s' = .next t' ∧ t'.result = 3 ∧ t'.detail = 1 ∧ t'.ptValid = false ∧ t'.dataValid = false ∧
      memoryKept s' t'

/-- The result of a telegram does not depend on the telegrams before it: two states that agree on IN_LEN, the text, KEY
and KEY_LEN give the same outcome and valid flags, and on OK the same decoded registers and plaintext (44_control.md
R266). -/
def Obligations.ProcessForgetsEarlierTelegrams : Prop :=
  ∀ s s' : State, s'.inLen = s.inLen → inText s' = inText s → s'.key = s.key → s'.keyLen = s.keyLen →
    ∃ t t', exec .process s = .next t ∧ exec .process s' = .next t' ∧
      t'.result = t.result ∧ t'.detail = t.detail ∧
      t'.hdrValid = t.hdrValid ∧ t'.ptValid = t.ptValid ∧ t'.dataValid = t.dataValid ∧
      (t.result = 0 →
        t'.frameLen = t.frameLen ∧ frameString t' = frameString t ∧ t'.hdr = t.hdr ∧ t'.iv = t.iv ∧ t'.pcrc = t.pcrc ∧
        t'.ptLen = t.ptLen ∧ plainText t' = plainText t ∧ t'.val0 = t.val0 ∧ t'.val1 = t.val1 ∧ t'.val2 = t.val2 ∧
        t'.val3 = t.val3 ∧ t'.valFound = t.valFound ∧ t'.fmt = t.fmt ∧ t'.dsrc = t.dsrc)

/-! ### What no command does -/

/-- A command records its own opcode, a pair of the outcome table, and the error flag of its outcome; no command clears
an error flag (60_exceptions.md R282, R283; 10_state.md R34, R37). -/
def Obligations.CommandsRecordALegalOutcome : Prop :=
  ∀ (i : Instr) (s t : State), exec i s = .next t →
    t.lastOp = opcodeOf i ∧ outcomeOk t ∧
    t.errflags = s.errflags ||| (if t.result = 0 then (0 : Word) else (1 : Word) <<< t.result.toNat)

/-- No command writes IN_LEN, CRC_START, CRC_LEN, KEY_LEN or KEY, only HEXDEC and PROCESS write FRAME_LEN, and none
touches the queue or the answer (10_state.md R22 to R27; the last clause is about the model's own fields, log 1,
log 3). -/
def Obligations.CommandsKeepTheHostOperands : Prop :=
  ∀ (i : Instr) (s t : State), exec i s = .next t →
    t.inLen = s.inLen ∧ t.crcStart = s.crcStart ∧ t.crcLen = s.crcLen ∧ t.keyLen = s.keyLen ∧ t.key = s.key ∧
    (i ≠ .hexdec → i ≠ .process → t.frameLen = s.frameLen) ∧
    t.pending = s.pending ∧ t.response = s.response ∧ t.resets = s.resets

/-- No command writes INBUF; only HEXDEC and PROCESS write FRAME, the bytes below IN_LEN / 2 alone; only DECRYPT,
PROCESS and PROCESS_BIN write PT, the bytes below PAY_LEN alone (10_state.md R53, R54, R55). -/
def Obligations.CommandsStoreOnlyTheirBufferBytes : Prop :=
  ∀ (i : Instr) (s t : State) (x : Nat), exec i s = .next t →
    ¬ ((i = .hexdec ∨ i = .process) ∧ 0x600 ≤ x ∧ x < 0x600 + s.inLen.toNat / 2) →
    ¬ ((i = .decrypt ∨ i = .process ∨ i = .processBin) ∧ 0x700 ≤ x ∧ x < 0x700 + t.hdr.payLen.toNat) →
    byteAt t x = byteAt s x

/-- Each result register is written by the commands its rule names and by no other (10_state.md R32, R33, R38, R39,
R40, R42, R50, R51, R52). -/
def Obligations.CommandsWriteOnlyTheirResultRegisters : Prop :=
  ∀ (i : Instr) (s t : State), exec i s = .next t →
    (i ∉ [Instr.crcCcitt, .crcWmbus, .checkTrailer, .checkPcrc, .clear] → t.crcResult = s.crcResult) ∧
    (i ∉ [Instr.decrypt, .checkPcrc, .process, .processBin, .clear] → t.pcrc = s.pcrc) ∧
    (i ∉ [Instr.parse, .process, .processBin, .clear] → t.hdr = s.hdr ∧ t.iv = s.iv) ∧
    (i ∉ [Instr.decrypt, .process, .processBin, .clear] → t.ptLen = s.ptLen) ∧
    (i ∉ [Instr.extract, .extractDirect, .process, .processBin, .clear] →
      t.val0 = s.val0 ∧ t.val1 = s.val1 ∧ t.val2 = s.val2 ∧ t.val3 = s.val3 ∧ t.valFound = s.valFound ∧
        t.fmt = s.fmt ∧ t.dsrc = s.dsrc)

/-- The valid flags after each single command, as the flag table says (10_state.md R57, R29, R30, R31). -/
def Obligations.CommandsMoveTheValidFlagsAsTheTableSays : Prop :=
  ∀ (i : Instr) (s t : State), exec i s = .next t →
    (i = .hexdec → t.hdrValid = false ∧ t.ptValid = false ∧ t.dataValid = false) ∧
    (i = .parse → (t.hdrValid = true ↔ t.result = 0) ∧ t.ptValid = false ∧ t.dataValid = false) ∧
    (i = .decrypt → t.hdrValid = s.hdrValid ∧ t.dataValid = s.dataValid ∧
      (t.result = 0 → t.ptValid = true) ∧ (t.result ≠ 0 → t.ptValid = s.ptValid)) ∧
    (i = .extract ∨ i = .extractDirect → t.hdrValid = s.hdrValid ∧ t.ptValid = s.ptValid ∧
      (t.result = 0 → t.dataValid = true) ∧ (t.result = 4 → t.dataValid = false) ∧
      (t.result ≠ 0 → t.result ≠ 4 → t.dataValid = s.dataValid)) ∧
    (i = .clear → t.hdrValid = false ∧ t.ptValid = false ∧ t.dataValid = false) ∧
    (i ∈ [Instr.nop, .crcCcitt, .crcWmbus, .checkTrailer, .checkPcrc] →
      t.hdrValid = s.hdrValid ∧ t.ptValid = s.ptValid ∧ t.dataValid = s.dataValid)

/-- Only a command that decrypts sets PT_VALID, and then PT holds a plaintext that passes its CRC; only a command that
extracts sets DATA_VALID: no host write can set either (10_state.md R30, R31; 60_exceptions.md R292). -/
def Obligations.OnlyCommandsSetPtValidAndDataValid : Prop :=
  ∀ s t : State, step s = .next t →
    (s.ptValid = false → t.ptValid = true →
      ∃ (i : Instr) (rest : List Event), s.pending = .txn (.write 0x000 (encode i)) :: rest ∧
        (i = .decrypt ∨ i = .process ∨ i = .processBin) ∧ payloadCrcOk (plainText t) = true) ∧
    (s.dataValid = false → t.dataValid = true →
      ∃ (i : Instr) (rest : List Event), s.pending = .txn (.write 0x000 (encode i)) :: rest ∧
        (i = .extract ∨ i = .extractDirect ∨ i = .process ∨ i = .processBin))

/-! ### Reset and the invariant -/

/-- What each command does right after reset (70_reset_and_hazards.md R314); the 0xFFFF of CRC_WMBUS, and with it R314's
row, rests on the spec's own inference of 40_crc.md R135 (DEDUCED, log 14). -/
def Obligations.CommandsRightAfterReset : Prop :=
  ∀ (i : Instr) (r d : BitVec 4) (c : Half),
    (i, r, d, c) ∈ [(Instr.nop, (0 : BitVec 4), (0 : BitVec 4), (0x0000 : Half)), (.clear, 0, 0, 0x0000),
      (.hexdec, 0, 0, 0x0000), (.parse, 1, 4, 0x0000), (.decrypt, 7, 1, 0x0000), (.extract, 7, 2, 0x0000),
      (.extractDirect, 4, 2, 0x0000), (.crcCcitt, 0, 0, 0x0000), (.crcWmbus, 0, 0, 0xFFFF),
      (.checkTrailer, 8, 3, 0x0000), (.checkPcrc, 8, 3, 0x0000), (.process, 1, 4, 0x0000), (.processBin, 1, 4, 0x0000)] →
    ∃ t, exec i State.reset = .next t ∧ t.result = r ∧ t.detail = d ∧ t.crcResult = c ∧ t.frameLen = 0

/-- The invariant of the block holds after reset. -/
def Obligations.ResetMeetsTheInvariant : Prop :=
  BlockInvariant State.reset

/-- Every step keeps the invariant of the block, whatever the host does: the memory's form, the legal outcome pairs, the
reserved error flags, the lengths, the session fields, the tail of IV, and that each valid flag means what STATUS says
it means (10_state.md R28 to R31, R34, R37, R45, R46; 20_memory.md R68; 44_control.md R264). -/
def Obligations.EveryStepKeepsTheInvariant : Prop :=
  ∀ s t : State, BlockInvariant s → step s = .next t → BlockInvariant t

/-- From a state that meets the invariant no step stops: every transaction is answered and every command ends with an
outcome (60_exceptions.md R280; 20_memory.md R70). -/
def Obligations.NoStepStopsUnderTheInvariant : Prop :=
  ∀ s : State, BlockInvariant s → ∃ t, step s = .next t

/-- Whatever the host queues after reset, no run of any length stops (60_exceptions.md R280, R285). -/
def Obligations.NoRunFromResetStops : Prop :=
  ∀ events : List Event, NeverStops { State.reset with pending := events }
end

