-- ==== Sys2Proof/Laws/State.lean ====
section
/-!
SUPPORT. One lemma per field per update of State, true by rfl: a proof about an update never unfolds it.
-/

namespace Sys2Proof.Machine

variable (s : State)

/-! ### recordOutcome -/

@[simp] theorem recordOutcome_mem (o : OutcomeName) (d : BitVec 4) : (recordOutcome o d s).mem = s.mem := rfl
@[simp] theorem recordOutcome_key (o : OutcomeName) (d : BitVec 4) : (recordOutcome o d s).key = s.key := rfl
@[simp] theorem recordOutcome_inLen (o : OutcomeName) (d : BitVec 4) : (recordOutcome o d s).inLen = s.inLen := rfl
@[simp] theorem recordOutcome_frameLen (o : OutcomeName) (d : BitVec 4) : (recordOutcome o d s).frameLen = s.frameLen := rfl
@[simp] theorem recordOutcome_crcStart (o : OutcomeName) (d : BitVec 4) : (recordOutcome o d s).crcStart = s.crcStart := rfl
@[simp] theorem recordOutcome_crcLen (o : OutcomeName) (d : BitVec 4) : (recordOutcome o d s).crcLen = s.crcLen := rfl
@[simp] theorem recordOutcome_keyLen (o : OutcomeName) (d : BitVec 4) : (recordOutcome o d s).keyLen = s.keyLen := rfl
@[simp] theorem recordOutcome_hdrValid (o : OutcomeName) (d : BitVec 4) : (recordOutcome o d s).hdrValid = s.hdrValid := rfl
@[simp] theorem recordOutcome_ptValid (o : OutcomeName) (d : BitVec 4) : (recordOutcome o d s).ptValid = s.ptValid := rfl
@[simp] theorem recordOutcome_dataValid (o : OutcomeName) (d : BitVec 4) : (recordOutcome o d s).dataValid = s.dataValid := rfl
@[simp] theorem recordOutcome_fmt (o : OutcomeName) (d : BitVec 4) : (recordOutcome o d s).fmt = s.fmt := rfl
@[simp] theorem recordOutcome_dsrc (o : OutcomeName) (d : BitVec 4) : (recordOutcome o d s).dsrc = s.dsrc := rfl
@[simp] theorem recordOutcome_result (o : OutcomeName) (d : BitVec 4) : (recordOutcome o d s).result = outcomeCode o := rfl
@[simp] theorem recordOutcome_detail (o : OutcomeName) (d : BitVec 4) : (recordOutcome o d s).detail = d := rfl
@[simp] theorem recordOutcome_lastOp (o : OutcomeName) (d : BitVec 4) : (recordOutcome o d s).lastOp = s.lastOp := rfl
@[simp] theorem recordOutcome_errflags (o : OutcomeName) (d : BitVec 4) : (recordOutcome o d s).errflags = s.errflags ||| outcomeFlag o := rfl
@[simp] theorem recordOutcome_crcResult (o : OutcomeName) (d : BitVec 4) : (recordOutcome o d s).crcResult = s.crcResult := rfl
@[simp] theorem recordOutcome_pcrc (o : OutcomeName) (d : BitVec 4) : (recordOutcome o d s).pcrc = s.pcrc := rfl
@[simp] theorem recordOutcome_hdr (o : OutcomeName) (d : BitVec 4) : (recordOutcome o d s).hdr = s.hdr := rfl
@[simp] theorem recordOutcome_iv (o : OutcomeName) (d : BitVec 4) : (recordOutcome o d s).iv = s.iv := rfl
@[simp] theorem recordOutcome_val0 (o : OutcomeName) (d : BitVec 4) : (recordOutcome o d s).val0 = s.val0 := rfl
@[simp] theorem recordOutcome_val1 (o : OutcomeName) (d : BitVec 4) : (recordOutcome o d s).val1 = s.val1 := rfl
@[simp] theorem recordOutcome_val2 (o : OutcomeName) (d : BitVec 4) : (recordOutcome o d s).val2 = s.val2 := rfl
@[simp] theorem recordOutcome_val3 (o : OutcomeName) (d : BitVec 4) : (recordOutcome o d s).val3 = s.val3 := rfl
@[simp] theorem recordOutcome_valFound (o : OutcomeName) (d : BitVec 4) : (recordOutcome o d s).valFound = s.valFound := rfl
@[simp] theorem recordOutcome_ptLen (o : OutcomeName) (d : BitVec 4) : (recordOutcome o d s).ptLen = s.ptLen := rfl
@[simp] theorem recordOutcome_pending (o : OutcomeName) (d : BitVec 4) : (recordOutcome o d s).pending = s.pending := rfl
@[simp] theorem recordOutcome_response (o : OutcomeName) (d : BitVec 4) : (recordOutcome o d s).response = s.response := rfl
@[simp] theorem recordOutcome_resets (o : OutcomeName) (d : BitVec 4) : (recordOutcome o d s).resets = s.resets := rfl

/-! ### clearErrflags -/

@[simp] theorem clearErrflags_mem (w : Word) : (clearErrflags w s).mem = s.mem := rfl
@[simp] theorem clearErrflags_key (w : Word) : (clearErrflags w s).key = s.key := rfl
@[simp] theorem clearErrflags_inLen (w : Word) : (clearErrflags w s).inLen = s.inLen := rfl
@[simp] theorem clearErrflags_frameLen (w : Word) : (clearErrflags w s).frameLen = s.frameLen := rfl
@[simp] theorem clearErrflags_crcStart (w : Word) : (clearErrflags w s).crcStart = s.crcStart := rfl
@[simp] theorem clearErrflags_crcLen (w : Word) : (clearErrflags w s).crcLen = s.crcLen := rfl
@[simp] theorem clearErrflags_keyLen (w : Word) : (clearErrflags w s).keyLen = s.keyLen := rfl
@[simp] theorem clearErrflags_hdrValid (w : Word) : (clearErrflags w s).hdrValid = s.hdrValid := rfl
@[simp] theorem clearErrflags_ptValid (w : Word) : (clearErrflags w s).ptValid = s.ptValid := rfl
@[simp] theorem clearErrflags_dataValid (w : Word) : (clearErrflags w s).dataValid = s.dataValid := rfl
@[simp] theorem clearErrflags_fmt (w : Word) : (clearErrflags w s).fmt = s.fmt := rfl
@[simp] theorem clearErrflags_dsrc (w : Word) : (clearErrflags w s).dsrc = s.dsrc := rfl
@[simp] theorem clearErrflags_result (w : Word) : (clearErrflags w s).result = s.result := rfl
@[simp] theorem clearErrflags_detail (w : Word) : (clearErrflags w s).detail = s.detail := rfl
@[simp] theorem clearErrflags_lastOp (w : Word) : (clearErrflags w s).lastOp = s.lastOp := rfl
@[simp] theorem clearErrflags_errflags (w : Word) : (clearErrflags w s).errflags = s.errflags &&& ~~~(w &&& errflagsMask) := rfl
@[simp] theorem clearErrflags_crcResult (w : Word) : (clearErrflags w s).crcResult = s.crcResult := rfl
@[simp] theorem clearErrflags_pcrc (w : Word) : (clearErrflags w s).pcrc = s.pcrc := rfl
@[simp] theorem clearErrflags_hdr (w : Word) : (clearErrflags w s).hdr = s.hdr := rfl
@[simp] theorem clearErrflags_iv (w : Word) : (clearErrflags w s).iv = s.iv := rfl
@[simp] theorem clearErrflags_val0 (w : Word) : (clearErrflags w s).val0 = s.val0 := rfl
@[simp] theorem clearErrflags_val1 (w : Word) : (clearErrflags w s).val1 = s.val1 := rfl
@[simp] theorem clearErrflags_val2 (w : Word) : (clearErrflags w s).val2 = s.val2 := rfl
@[simp] theorem clearErrflags_val3 (w : Word) : (clearErrflags w s).val3 = s.val3 := rfl
@[simp] theorem clearErrflags_valFound (w : Word) : (clearErrflags w s).valFound = s.valFound := rfl
@[simp] theorem clearErrflags_ptLen (w : Word) : (clearErrflags w s).ptLen = s.ptLen := rfl
@[simp] theorem clearErrflags_pending (w : Word) : (clearErrflags w s).pending = s.pending := rfl
@[simp] theorem clearErrflags_response (w : Word) : (clearErrflags w s).response = s.response := rfl
@[simp] theorem clearErrflags_resets (w : Word) : (clearErrflags w s).resets = s.resets := rfl

/-! ### invalidate -/

@[simp] theorem invalidate_mem : (invalidate s).mem = s.mem := rfl
@[simp] theorem invalidate_key : (invalidate s).key = s.key := rfl
@[simp] theorem invalidate_inLen : (invalidate s).inLen = s.inLen := rfl
@[simp] theorem invalidate_frameLen : (invalidate s).frameLen = s.frameLen := rfl
@[simp] theorem invalidate_crcStart : (invalidate s).crcStart = s.crcStart := rfl
@[simp] theorem invalidate_crcLen : (invalidate s).crcLen = s.crcLen := rfl
@[simp] theorem invalidate_keyLen : (invalidate s).keyLen = s.keyLen := rfl
@[simp] theorem invalidate_hdrValid : (invalidate s).hdrValid = false := rfl
@[simp] theorem invalidate_ptValid : (invalidate s).ptValid = false := rfl
@[simp] theorem invalidate_dataValid : (invalidate s).dataValid = false := rfl
@[simp] theorem invalidate_fmt : (invalidate s).fmt = s.fmt := rfl
@[simp] theorem invalidate_dsrc : (invalidate s).dsrc = s.dsrc := rfl
@[simp] theorem invalidate_result : (invalidate s).result = s.result := rfl
@[simp] theorem invalidate_detail : (invalidate s).detail = s.detail := rfl
@[simp] theorem invalidate_lastOp : (invalidate s).lastOp = s.lastOp := rfl
@[simp] theorem invalidate_errflags : (invalidate s).errflags = s.errflags := rfl
@[simp] theorem invalidate_crcResult : (invalidate s).crcResult = s.crcResult := rfl
@[simp] theorem invalidate_pcrc : (invalidate s).pcrc = s.pcrc := rfl
@[simp] theorem invalidate_hdr : (invalidate s).hdr = s.hdr := rfl
@[simp] theorem invalidate_iv : (invalidate s).iv = s.iv := rfl
@[simp] theorem invalidate_val0 : (invalidate s).val0 = s.val0 := rfl
@[simp] theorem invalidate_val1 : (invalidate s).val1 = s.val1 := rfl
@[simp] theorem invalidate_val2 : (invalidate s).val2 = s.val2 := rfl
@[simp] theorem invalidate_val3 : (invalidate s).val3 = s.val3 := rfl
@[simp] theorem invalidate_valFound : (invalidate s).valFound = s.valFound := rfl
@[simp] theorem invalidate_ptLen : (invalidate s).ptLen = s.ptLen := rfl
@[simp] theorem invalidate_pending : (invalidate s).pending = s.pending := rfl
@[simp] theorem invalidate_response : (invalidate s).response = s.response := rfl
@[simp] theorem invalidate_resets : (invalidate s).resets = s.resets := rfl

/-! ### invalidateData -/

@[simp] theorem invalidateData_mem : (invalidateData s).mem = s.mem := rfl
@[simp] theorem invalidateData_key : (invalidateData s).key = s.key := rfl
@[simp] theorem invalidateData_inLen : (invalidateData s).inLen = s.inLen := rfl
@[simp] theorem invalidateData_frameLen : (invalidateData s).frameLen = s.frameLen := rfl
@[simp] theorem invalidateData_crcStart : (invalidateData s).crcStart = s.crcStart := rfl
@[simp] theorem invalidateData_crcLen : (invalidateData s).crcLen = s.crcLen := rfl
@[simp] theorem invalidateData_keyLen : (invalidateData s).keyLen = s.keyLen := rfl
@[simp] theorem invalidateData_hdrValid : (invalidateData s).hdrValid = s.hdrValid := rfl
@[simp] theorem invalidateData_ptValid : (invalidateData s).ptValid = s.ptValid := rfl
@[simp] theorem invalidateData_dataValid : (invalidateData s).dataValid = false := rfl
@[simp] theorem invalidateData_fmt : (invalidateData s).fmt = s.fmt := rfl
@[simp] theorem invalidateData_dsrc : (invalidateData s).dsrc = s.dsrc := rfl
@[simp] theorem invalidateData_result : (invalidateData s).result = s.result := rfl
@[simp] theorem invalidateData_detail : (invalidateData s).detail = s.detail := rfl
@[simp] theorem invalidateData_lastOp : (invalidateData s).lastOp = s.lastOp := rfl
@[simp] theorem invalidateData_errflags : (invalidateData s).errflags = s.errflags := rfl
@[simp] theorem invalidateData_crcResult : (invalidateData s).crcResult = s.crcResult := rfl
@[simp] theorem invalidateData_pcrc : (invalidateData s).pcrc = s.pcrc := rfl
@[simp] theorem invalidateData_hdr : (invalidateData s).hdr = s.hdr := rfl
@[simp] theorem invalidateData_iv : (invalidateData s).iv = s.iv := rfl
@[simp] theorem invalidateData_val0 : (invalidateData s).val0 = s.val0 := rfl
@[simp] theorem invalidateData_val1 : (invalidateData s).val1 = s.val1 := rfl
@[simp] theorem invalidateData_val2 : (invalidateData s).val2 = s.val2 := rfl
@[simp] theorem invalidateData_val3 : (invalidateData s).val3 = s.val3 := rfl
@[simp] theorem invalidateData_valFound : (invalidateData s).valFound = s.valFound := rfl
@[simp] theorem invalidateData_ptLen : (invalidateData s).ptLen = s.ptLen := rfl
@[simp] theorem invalidateData_pending : (invalidateData s).pending = s.pending := rfl
@[simp] theorem invalidateData_response : (invalidateData s).response = s.response := rfl
@[simp] theorem invalidateData_resets : (invalidateData s).resets = s.resets := rfl

/-! ### latchOp -/

@[simp] theorem latchOp_mem (op : Byte) : (latchOp op s).mem = s.mem := rfl
@[simp] theorem latchOp_key (op : Byte) : (latchOp op s).key = s.key := rfl
@[simp] theorem latchOp_inLen (op : Byte) : (latchOp op s).inLen = s.inLen := rfl
@[simp] theorem latchOp_frameLen (op : Byte) : (latchOp op s).frameLen = s.frameLen := rfl
@[simp] theorem latchOp_crcStart (op : Byte) : (latchOp op s).crcStart = s.crcStart := rfl
@[simp] theorem latchOp_crcLen (op : Byte) : (latchOp op s).crcLen = s.crcLen := rfl
@[simp] theorem latchOp_keyLen (op : Byte) : (latchOp op s).keyLen = s.keyLen := rfl
@[simp] theorem latchOp_hdrValid (op : Byte) : (latchOp op s).hdrValid = s.hdrValid := rfl
@[simp] theorem latchOp_ptValid (op : Byte) : (latchOp op s).ptValid = s.ptValid := rfl
@[simp] theorem latchOp_dataValid (op : Byte) : (latchOp op s).dataValid = s.dataValid := rfl
@[simp] theorem latchOp_fmt (op : Byte) : (latchOp op s).fmt = s.fmt := rfl
@[simp] theorem latchOp_dsrc (op : Byte) : (latchOp op s).dsrc = s.dsrc := rfl
@[simp] theorem latchOp_result (op : Byte) : (latchOp op s).result = s.result := rfl
@[simp] theorem latchOp_detail (op : Byte) : (latchOp op s).detail = s.detail := rfl
@[simp] theorem latchOp_lastOp (op : Byte) : (latchOp op s).lastOp = op := rfl
@[simp] theorem latchOp_errflags (op : Byte) : (latchOp op s).errflags = s.errflags := rfl
@[simp] theorem latchOp_crcResult (op : Byte) : (latchOp op s).crcResult = s.crcResult := rfl
@[simp] theorem latchOp_pcrc (op : Byte) : (latchOp op s).pcrc = s.pcrc := rfl
@[simp] theorem latchOp_hdr (op : Byte) : (latchOp op s).hdr = s.hdr := rfl
@[simp] theorem latchOp_iv (op : Byte) : (latchOp op s).iv = s.iv := rfl
@[simp] theorem latchOp_val0 (op : Byte) : (latchOp op s).val0 = s.val0 := rfl
@[simp] theorem latchOp_val1 (op : Byte) : (latchOp op s).val1 = s.val1 := rfl
@[simp] theorem latchOp_val2 (op : Byte) : (latchOp op s).val2 = s.val2 := rfl
@[simp] theorem latchOp_val3 (op : Byte) : (latchOp op s).val3 = s.val3 := rfl
@[simp] theorem latchOp_valFound (op : Byte) : (latchOp op s).valFound = s.valFound := rfl
@[simp] theorem latchOp_ptLen (op : Byte) : (latchOp op s).ptLen = s.ptLen := rfl
@[simp] theorem latchOp_pending (op : Byte) : (latchOp op s).pending = s.pending := rfl
@[simp] theorem latchOp_response (op : Byte) : (latchOp op s).response = s.response := rfl
@[simp] theorem latchOp_resets (op : Byte) : (latchOp op s).resets = s.resets := rfl

/-! ### storeExtraction -/

@[simp] theorem storeExtraction_mem (x : Extraction) (src : Source) : (storeExtraction x src s).mem = s.mem := rfl
@[simp] theorem storeExtraction_key (x : Extraction) (src : Source) : (storeExtraction x src s).key = s.key := rfl
@[simp] theorem storeExtraction_inLen (x : Extraction) (src : Source) : (storeExtraction x src s).inLen = s.inLen := rfl
@[simp] theorem storeExtraction_frameLen (x : Extraction) (src : Source) : (storeExtraction x src s).frameLen = s.frameLen := rfl
@[simp] theorem storeExtraction_crcStart (x : Extraction) (src : Source) : (storeExtraction x src s).crcStart = s.crcStart := rfl
@[simp] theorem storeExtraction_crcLen (x : Extraction) (src : Source) : (storeExtraction x src s).crcLen = s.crcLen := rfl
@[simp] theorem storeExtraction_keyLen (x : Extraction) (src : Source) : (storeExtraction x src s).keyLen = s.keyLen := rfl
@[simp] theorem storeExtraction_hdrValid (x : Extraction) (src : Source) : (storeExtraction x src s).hdrValid = s.hdrValid := rfl
@[simp] theorem storeExtraction_ptValid (x : Extraction) (src : Source) : (storeExtraction x src s).ptValid = s.ptValid := rfl
@[simp] theorem storeExtraction_dataValid (x : Extraction) (src : Source) : (storeExtraction x src s).dataValid = true := rfl
@[simp] theorem storeExtraction_fmt (x : Extraction) (src : Source) : (storeExtraction x src s).fmt = x.format := rfl
@[simp] theorem storeExtraction_dsrc (x : Extraction) (src : Source) : (storeExtraction x src s).dsrc = src := rfl
@[simp] theorem storeExtraction_result (x : Extraction) (src : Source) : (storeExtraction x src s).result = s.result := rfl
@[simp] theorem storeExtraction_detail (x : Extraction) (src : Source) : (storeExtraction x src s).detail = s.detail := rfl
@[simp] theorem storeExtraction_lastOp (x : Extraction) (src : Source) : (storeExtraction x src s).lastOp = s.lastOp := rfl
@[simp] theorem storeExtraction_errflags (x : Extraction) (src : Source) : (storeExtraction x src s).errflags = s.errflags := rfl
@[simp] theorem storeExtraction_crcResult (x : Extraction) (src : Source) : (storeExtraction x src s).crcResult = s.crcResult := rfl
@[simp] theorem storeExtraction_pcrc (x : Extraction) (src : Source) : (storeExtraction x src s).pcrc = s.pcrc := rfl
@[simp] theorem storeExtraction_hdr (x : Extraction) (src : Source) : (storeExtraction x src s).hdr = s.hdr := rfl
@[simp] theorem storeExtraction_iv (x : Extraction) (src : Source) : (storeExtraction x src s).iv = s.iv := rfl
@[simp] theorem storeExtraction_val0 (x : Extraction) (src : Source) : (storeExtraction x src s).val0 = x.v0 := rfl
@[simp] theorem storeExtraction_val1 (x : Extraction) (src : Source) : (storeExtraction x src s).val1 = x.v1 := rfl
@[simp] theorem storeExtraction_val2 (x : Extraction) (src : Source) : (storeExtraction x src s).val2 = x.v2 := rfl
@[simp] theorem storeExtraction_val3 (x : Extraction) (src : Source) : (storeExtraction x src s).val3 = x.v3 := rfl
@[simp] theorem storeExtraction_valFound (x : Extraction) (src : Source) : (storeExtraction x src s).valFound = x.found := rfl
@[simp] theorem storeExtraction_ptLen (x : Extraction) (src : Source) : (storeExtraction x src s).ptLen = s.ptLen := rfl
@[simp] theorem storeExtraction_pending (x : Extraction) (src : Source) : (storeExtraction x src s).pending = s.pending := rfl
@[simp] theorem storeExtraction_response (x : Extraction) (src : Source) : (storeExtraction x src s).response = s.response := rfl
@[simp] theorem storeExtraction_resets (x : Extraction) (src : Source) : (storeExtraction x src s).resets = s.resets := rfl

/-! ### clearDecoded -/

@[simp] theorem clearDecoded_mem : (clearDecoded s).mem = s.mem := rfl
@[simp] theorem clearDecoded_key : (clearDecoded s).key = s.key := rfl
@[simp] theorem clearDecoded_inLen : (clearDecoded s).inLen = s.inLen := rfl
@[simp] theorem clearDecoded_frameLen : (clearDecoded s).frameLen = s.frameLen := rfl
@[simp] theorem clearDecoded_crcStart : (clearDecoded s).crcStart = s.crcStart := rfl
@[simp] theorem clearDecoded_crcLen : (clearDecoded s).crcLen = s.crcLen := rfl
@[simp] theorem clearDecoded_keyLen : (clearDecoded s).keyLen = s.keyLen := rfl
@[simp] theorem clearDecoded_hdrValid : (clearDecoded s).hdrValid = false := rfl
@[simp] theorem clearDecoded_ptValid : (clearDecoded s).ptValid = false := rfl
@[simp] theorem clearDecoded_dataValid : (clearDecoded s).dataValid = false := rfl
@[simp] theorem clearDecoded_fmt : (clearDecoded s).fmt = .compact := rfl
@[simp] theorem clearDecoded_dsrc : (clearDecoded s).dsrc = .pt := rfl
@[simp] theorem clearDecoded_result : (clearDecoded s).result = s.result := rfl
@[simp] theorem clearDecoded_detail : (clearDecoded s).detail = s.detail := rfl
@[simp] theorem clearDecoded_lastOp : (clearDecoded s).lastOp = s.lastOp := rfl
@[simp] theorem clearDecoded_errflags : (clearDecoded s).errflags = s.errflags := rfl
@[simp] theorem clearDecoded_crcResult : (clearDecoded s).crcResult = 0 := rfl
@[simp] theorem clearDecoded_pcrc : (clearDecoded s).pcrc = 0 := rfl
@[simp] theorem clearDecoded_hdr : (clearDecoded s).hdr = headerZero := rfl
@[simp] theorem clearDecoded_iv : (clearDecoded s).iv = Vector.replicate 16 0 := rfl
@[simp] theorem clearDecoded_val0 : (clearDecoded s).val0 = 0 := rfl
@[simp] theorem clearDecoded_val1 : (clearDecoded s).val1 = 0 := rfl
@[simp] theorem clearDecoded_val2 : (clearDecoded s).val2 = 0 := rfl
@[simp] theorem clearDecoded_val3 : (clearDecoded s).val3 = 0 := rfl
@[simp] theorem clearDecoded_valFound : (clearDecoded s).valFound = 0 := rfl
@[simp] theorem clearDecoded_ptLen : (clearDecoded s).ptLen = 0 := rfl
@[simp] theorem clearDecoded_pending : (clearDecoded s).pending = s.pending := rfl
@[simp] theorem clearDecoded_response : (clearDecoded s).response = s.response := rfl
@[simp] theorem clearDecoded_resets : (clearDecoded s).resets = s.resets := rfl

/-! ### illegalCommand -/

@[simp] theorem illegalCommand_mem (w : Word) (e : DecodeError) : (illegalCommand w e s).mem = s.mem := rfl
@[simp] theorem illegalCommand_key (w : Word) (e : DecodeError) : (illegalCommand w e s).key = s.key := rfl
@[simp] theorem illegalCommand_inLen (w : Word) (e : DecodeError) : (illegalCommand w e s).inLen = s.inLen := rfl
@[simp] theorem illegalCommand_frameLen (w : Word) (e : DecodeError) : (illegalCommand w e s).frameLen = s.frameLen := rfl
@[simp] theorem illegalCommand_crcStart (w : Word) (e : DecodeError) : (illegalCommand w e s).crcStart = s.crcStart := rfl
@[simp] theorem illegalCommand_crcLen (w : Word) (e : DecodeError) : (illegalCommand w e s).crcLen = s.crcLen := rfl
@[simp] theorem illegalCommand_keyLen (w : Word) (e : DecodeError) : (illegalCommand w e s).keyLen = s.keyLen := rfl
@[simp] theorem illegalCommand_hdrValid (w : Word) (e : DecodeError) : (illegalCommand w e s).hdrValid = s.hdrValid := rfl
@[simp] theorem illegalCommand_ptValid (w : Word) (e : DecodeError) : (illegalCommand w e s).ptValid = s.ptValid := rfl
@[simp] theorem illegalCommand_dataValid (w : Word) (e : DecodeError) : (illegalCommand w e s).dataValid = s.dataValid := rfl
@[simp] theorem illegalCommand_fmt (w : Word) (e : DecodeError) : (illegalCommand w e s).fmt = s.fmt := rfl
@[simp] theorem illegalCommand_dsrc (w : Word) (e : DecodeError) : (illegalCommand w e s).dsrc = s.dsrc := rfl
@[simp] theorem illegalCommand_result (w : Word) (e : DecodeError) : (illegalCommand w e s).result = 6 := rfl
@[simp] theorem illegalCommand_detail (w : Word) (e : DecodeError) : (illegalCommand w e s).detail = illegalDetail e := rfl
@[simp] theorem illegalCommand_lastOp (w : Word) (e : DecodeError) : (illegalCommand w e s).lastOp = w.extractLsb' 0 8 := rfl
@[simp] theorem illegalCommand_errflags (w : Word) (e : DecodeError) : (illegalCommand w e s).errflags = s.errflags ||| outcomeFlag .illegalCommand := rfl
@[simp] theorem illegalCommand_crcResult (w : Word) (e : DecodeError) : (illegalCommand w e s).crcResult = s.crcResult := rfl
@[simp] theorem illegalCommand_pcrc (w : Word) (e : DecodeError) : (illegalCommand w e s).pcrc = s.pcrc := rfl
@[simp] theorem illegalCommand_hdr (w : Word) (e : DecodeError) : (illegalCommand w e s).hdr = s.hdr := rfl
@[simp] theorem illegalCommand_iv (w : Word) (e : DecodeError) : (illegalCommand w e s).iv = s.iv := rfl
@[simp] theorem illegalCommand_val0 (w : Word) (e : DecodeError) : (illegalCommand w e s).val0 = s.val0 := rfl
@[simp] theorem illegalCommand_val1 (w : Word) (e : DecodeError) : (illegalCommand w e s).val1 = s.val1 := rfl
@[simp] theorem illegalCommand_val2 (w : Word) (e : DecodeError) : (illegalCommand w e s).val2 = s.val2 := rfl
@[simp] theorem illegalCommand_val3 (w : Word) (e : DecodeError) : (illegalCommand w e s).val3 = s.val3 := rfl
@[simp] theorem illegalCommand_valFound (w : Word) (e : DecodeError) : (illegalCommand w e s).valFound = s.valFound := rfl
@[simp] theorem illegalCommand_ptLen (w : Word) (e : DecodeError) : (illegalCommand w e s).ptLen = s.ptLen := rfl
@[simp] theorem illegalCommand_pending (w : Word) (e : DecodeError) : (illegalCommand w e s).pending = s.pending := rfl
@[simp] theorem illegalCommand_response (w : Word) (e : DecodeError) : (illegalCommand w e s).response = s.response := rfl
@[simp] theorem illegalCommand_resets (w : Word) (e : DecodeError) : (illegalCommand w e s).resets = s.resets := rfl

/-! ### setKeyWord -/

@[simp] theorem setKeyWord_mem (i : Fin 4) (w : Word) : (setKeyWord i w s).mem = s.mem := rfl
@[simp] theorem setKeyWord_inLen (i : Fin 4) (w : Word) : (setKeyWord i w s).inLen = s.inLen := rfl
@[simp] theorem setKeyWord_frameLen (i : Fin 4) (w : Word) : (setKeyWord i w s).frameLen = s.frameLen := rfl
@[simp] theorem setKeyWord_crcStart (i : Fin 4) (w : Word) : (setKeyWord i w s).crcStart = s.crcStart := rfl
@[simp] theorem setKeyWord_crcLen (i : Fin 4) (w : Word) : (setKeyWord i w s).crcLen = s.crcLen := rfl
@[simp] theorem setKeyWord_keyLen (i : Fin 4) (w : Word) : (setKeyWord i w s).keyLen = s.keyLen := rfl
@[simp] theorem setKeyWord_hdrValid (i : Fin 4) (w : Word) : (setKeyWord i w s).hdrValid = s.hdrValid := rfl
@[simp] theorem setKeyWord_ptValid (i : Fin 4) (w : Word) : (setKeyWord i w s).ptValid = s.ptValid := rfl
@[simp] theorem setKeyWord_dataValid (i : Fin 4) (w : Word) : (setKeyWord i w s).dataValid = s.dataValid := rfl
@[simp] theorem setKeyWord_fmt (i : Fin 4) (w : Word) : (setKeyWord i w s).fmt = s.fmt := rfl
@[simp] theorem setKeyWord_dsrc (i : Fin 4) (w : Word) : (setKeyWord i w s).dsrc = s.dsrc := rfl
@[simp] theorem setKeyWord_result (i : Fin 4) (w : Word) : (setKeyWord i w s).result = s.result := rfl
@[simp] theorem setKeyWord_detail (i : Fin 4) (w : Word) : (setKeyWord i w s).detail = s.detail := rfl
@[simp] theorem setKeyWord_lastOp (i : Fin 4) (w : Word) : (setKeyWord i w s).lastOp = s.lastOp := rfl
@[simp] theorem setKeyWord_errflags (i : Fin 4) (w : Word) : (setKeyWord i w s).errflags = s.errflags := rfl
@[simp] theorem setKeyWord_crcResult (i : Fin 4) (w : Word) : (setKeyWord i w s).crcResult = s.crcResult := rfl
@[simp] theorem setKeyWord_pcrc (i : Fin 4) (w : Word) : (setKeyWord i w s).pcrc = s.pcrc := rfl
@[simp] theorem setKeyWord_hdr (i : Fin 4) (w : Word) : (setKeyWord i w s).hdr = s.hdr := rfl
@[simp] theorem setKeyWord_iv (i : Fin 4) (w : Word) : (setKeyWord i w s).iv = s.iv := rfl
@[simp] theorem setKeyWord_val0 (i : Fin 4) (w : Word) : (setKeyWord i w s).val0 = s.val0 := rfl
@[simp] theorem setKeyWord_val1 (i : Fin 4) (w : Word) : (setKeyWord i w s).val1 = s.val1 := rfl
@[simp] theorem setKeyWord_val2 (i : Fin 4) (w : Word) : (setKeyWord i w s).val2 = s.val2 := rfl
@[simp] theorem setKeyWord_val3 (i : Fin 4) (w : Word) : (setKeyWord i w s).val3 = s.val3 := rfl
@[simp] theorem setKeyWord_valFound (i : Fin 4) (w : Word) : (setKeyWord i w s).valFound = s.valFound := rfl
@[simp] theorem setKeyWord_ptLen (i : Fin 4) (w : Word) : (setKeyWord i w s).ptLen = s.ptLen := rfl
@[simp] theorem setKeyWord_pending (i : Fin 4) (w : Word) : (setKeyWord i w s).pending = s.pending := rfl
@[simp] theorem setKeyWord_response (i : Fin 4) (w : Word) : (setKeyWord i w s).response = s.response := rfl
@[simp] theorem setKeyWord_resets (i : Fin 4) (w : Word) : (setKeyWord i w s).resets = s.resets := rfl

/-! ### answer -/

@[simp] theorem answer_mem (r : Response) : (answer r s).mem = s.mem := rfl
@[simp] theorem answer_key (r : Response) : (answer r s).key = s.key := rfl
@[simp] theorem answer_inLen (r : Response) : (answer r s).inLen = s.inLen := rfl
@[simp] theorem answer_frameLen (r : Response) : (answer r s).frameLen = s.frameLen := rfl
@[simp] theorem answer_crcStart (r : Response) : (answer r s).crcStart = s.crcStart := rfl
@[simp] theorem answer_crcLen (r : Response) : (answer r s).crcLen = s.crcLen := rfl
@[simp] theorem answer_keyLen (r : Response) : (answer r s).keyLen = s.keyLen := rfl
@[simp] theorem answer_hdrValid (r : Response) : (answer r s).hdrValid = s.hdrValid := rfl
@[simp] theorem answer_ptValid (r : Response) : (answer r s).ptValid = s.ptValid := rfl
@[simp] theorem answer_dataValid (r : Response) : (answer r s).dataValid = s.dataValid := rfl
@[simp] theorem answer_fmt (r : Response) : (answer r s).fmt = s.fmt := rfl
@[simp] theorem answer_dsrc (r : Response) : (answer r s).dsrc = s.dsrc := rfl
@[simp] theorem answer_result (r : Response) : (answer r s).result = s.result := rfl
@[simp] theorem answer_detail (r : Response) : (answer r s).detail = s.detail := rfl
@[simp] theorem answer_lastOp (r : Response) : (answer r s).lastOp = s.lastOp := rfl
@[simp] theorem answer_errflags (r : Response) : (answer r s).errflags = s.errflags := rfl
@[simp] theorem answer_crcResult (r : Response) : (answer r s).crcResult = s.crcResult := rfl
@[simp] theorem answer_pcrc (r : Response) : (answer r s).pcrc = s.pcrc := rfl
@[simp] theorem answer_hdr (r : Response) : (answer r s).hdr = s.hdr := rfl
@[simp] theorem answer_iv (r : Response) : (answer r s).iv = s.iv := rfl
@[simp] theorem answer_val0 (r : Response) : (answer r s).val0 = s.val0 := rfl
@[simp] theorem answer_val1 (r : Response) : (answer r s).val1 = s.val1 := rfl
@[simp] theorem answer_val2 (r : Response) : (answer r s).val2 = s.val2 := rfl
@[simp] theorem answer_val3 (r : Response) : (answer r s).val3 = s.val3 := rfl
@[simp] theorem answer_valFound (r : Response) : (answer r s).valFound = s.valFound := rfl
@[simp] theorem answer_ptLen (r : Response) : (answer r s).ptLen = s.ptLen := rfl
@[simp] theorem answer_pending (r : Response) : (answer r s).pending = s.pending := rfl
@[simp] theorem answer_response (r : Response) : (answer r s).response = some r := rfl
@[simp] theorem answer_resets (r : Response) : (answer r s).resets = s.resets := rfl

/-! ### pushEvent -/

@[simp] theorem pushEvent_mem (e : Event) : (pushEvent e s).mem = s.mem := rfl
@[simp] theorem pushEvent_key (e : Event) : (pushEvent e s).key = s.key := rfl
@[simp] theorem pushEvent_inLen (e : Event) : (pushEvent e s).inLen = s.inLen := rfl
@[simp] theorem pushEvent_frameLen (e : Event) : (pushEvent e s).frameLen = s.frameLen := rfl
@[simp] theorem pushEvent_crcStart (e : Event) : (pushEvent e s).crcStart = s.crcStart := rfl
@[simp] theorem pushEvent_crcLen (e : Event) : (pushEvent e s).crcLen = s.crcLen := rfl
@[simp] theorem pushEvent_keyLen (e : Event) : (pushEvent e s).keyLen = s.keyLen := rfl
@[simp] theorem pushEvent_hdrValid (e : Event) : (pushEvent e s).hdrValid = s.hdrValid := rfl
@[simp] theorem pushEvent_ptValid (e : Event) : (pushEvent e s).ptValid = s.ptValid := rfl
@[simp] theorem pushEvent_dataValid (e : Event) : (pushEvent e s).dataValid = s.dataValid := rfl
@[simp] theorem pushEvent_fmt (e : Event) : (pushEvent e s).fmt = s.fmt := rfl
@[simp] theorem pushEvent_dsrc (e : Event) : (pushEvent e s).dsrc = s.dsrc := rfl
@[simp] theorem pushEvent_result (e : Event) : (pushEvent e s).result = s.result := rfl
@[simp] theorem pushEvent_detail (e : Event) : (pushEvent e s).detail = s.detail := rfl
@[simp] theorem pushEvent_lastOp (e : Event) : (pushEvent e s).lastOp = s.lastOp := rfl
@[simp] theorem pushEvent_errflags (e : Event) : (pushEvent e s).errflags = s.errflags := rfl
@[simp] theorem pushEvent_crcResult (e : Event) : (pushEvent e s).crcResult = s.crcResult := rfl
@[simp] theorem pushEvent_pcrc (e : Event) : (pushEvent e s).pcrc = s.pcrc := rfl
@[simp] theorem pushEvent_hdr (e : Event) : (pushEvent e s).hdr = s.hdr := rfl
@[simp] theorem pushEvent_iv (e : Event) : (pushEvent e s).iv = s.iv := rfl
@[simp] theorem pushEvent_val0 (e : Event) : (pushEvent e s).val0 = s.val0 := rfl
@[simp] theorem pushEvent_val1 (e : Event) : (pushEvent e s).val1 = s.val1 := rfl
@[simp] theorem pushEvent_val2 (e : Event) : (pushEvent e s).val2 = s.val2 := rfl
@[simp] theorem pushEvent_val3 (e : Event) : (pushEvent e s).val3 = s.val3 := rfl
@[simp] theorem pushEvent_valFound (e : Event) : (pushEvent e s).valFound = s.valFound := rfl
@[simp] theorem pushEvent_ptLen (e : Event) : (pushEvent e s).ptLen = s.ptLen := rfl
@[simp] theorem pushEvent_pending (e : Event) : (pushEvent e s).pending = e :: s.pending := rfl
@[simp] theorem pushEvent_response (e : Event) : (pushEvent e s).response = s.response := rfl
@[simp] theorem pushEvent_resets (e : Event) : (pushEvent e s).resets = s.resets := rfl

/-! ### applyReset -/

@[simp] theorem applyReset_mem : (applyReset s).mem = State.reset.mem := rfl
@[simp] theorem applyReset_key : (applyReset s).key = State.reset.key := rfl
@[simp] theorem applyReset_inLen : (applyReset s).inLen = State.reset.inLen := rfl
@[simp] theorem applyReset_frameLen : (applyReset s).frameLen = State.reset.frameLen := rfl
@[simp] theorem applyReset_crcStart : (applyReset s).crcStart = State.reset.crcStart := rfl
@[simp] theorem applyReset_crcLen : (applyReset s).crcLen = State.reset.crcLen := rfl
@[simp] theorem applyReset_keyLen : (applyReset s).keyLen = State.reset.keyLen := rfl
@[simp] theorem applyReset_hdrValid : (applyReset s).hdrValid = State.reset.hdrValid := rfl
@[simp] theorem applyReset_ptValid : (applyReset s).ptValid = State.reset.ptValid := rfl
@[simp] theorem applyReset_dataValid : (applyReset s).dataValid = State.reset.dataValid := rfl
@[simp] theorem applyReset_fmt : (applyReset s).fmt = State.reset.fmt := rfl
@[simp] theorem applyReset_dsrc : (applyReset s).dsrc = State.reset.dsrc := rfl
@[simp] theorem applyReset_result : (applyReset s).result = State.reset.result := rfl
@[simp] theorem applyReset_detail : (applyReset s).detail = State.reset.detail := rfl
@[simp] theorem applyReset_lastOp : (applyReset s).lastOp = State.reset.lastOp := rfl
@[simp] theorem applyReset_errflags : (applyReset s).errflags = State.reset.errflags := rfl
@[simp] theorem applyReset_crcResult : (applyReset s).crcResult = State.reset.crcResult := rfl
@[simp] theorem applyReset_pcrc : (applyReset s).pcrc = State.reset.pcrc := rfl
@[simp] theorem applyReset_hdr : (applyReset s).hdr = State.reset.hdr := rfl
@[simp] theorem applyReset_iv : (applyReset s).iv = State.reset.iv := rfl
@[simp] theorem applyReset_val0 : (applyReset s).val0 = State.reset.val0 := rfl
@[simp] theorem applyReset_val1 : (applyReset s).val1 = State.reset.val1 := rfl
@[simp] theorem applyReset_val2 : (applyReset s).val2 = State.reset.val2 := rfl
@[simp] theorem applyReset_val3 : (applyReset s).val3 = State.reset.val3 := rfl
@[simp] theorem applyReset_valFound : (applyReset s).valFound = State.reset.valFound := rfl
@[simp] theorem applyReset_ptLen : (applyReset s).ptLen = State.reset.ptLen := rfl
@[simp] theorem applyReset_pending : (applyReset s).pending = s.pending := rfl
@[simp] theorem applyReset_response : (applyReset s).response = State.reset.response := rfl
@[simp] theorem applyReset_resets : (applyReset s).resets = s.resets + 1 := rfl

end Sys2Proof.Machine
end

