-- ==== Sys2Proof/Laws/Memory.lean ====
section
/-!
SUPPORT. The laws of the memory: a read after a write, the canonical form, and strings of bytes.
-/

namespace Sys2Proof.Machine

/-! ### One byte -/

@[simp] theorem get?_set_self (m : Memory) (a : Nat) (b : Byte) : Memory.get? (Memory.set m a b) a = some b := by
  induction m with
  | nil => simp [Memory.set, Memory.get?]
  | cons c m ih =>
    unfold Memory.set
    split_ifs with h1 h2
    · simp [Memory.get?]
    · simp [Memory.get?]
    · have : c.1 ≠ a := fun h => h2 h.symm
      simp [Memory.get?, this, ih]

theorem get?_set_ne (m : Memory) {a x : Nat} (b : Byte) (h : x ≠ a) :
    Memory.get? (Memory.set m a b) x = Memory.get? m x := by
  induction m with
  | nil => simp [Memory.set, Memory.get?, Ne.symm h]
  | cons c m ih =>
    unfold Memory.set
    split_ifs with h1 h2
    · simp [Memory.get?, Ne.symm h]
    · subst h2
      simp [Memory.get?, Ne.symm h]
    · simp [Memory.get?, ih]

theorem mem_set {m : Memory} {a : Nat} {b : Byte} {c : Host.Cell} (h : c ∈ Memory.set m a b) :
    c = (a, b) ∨ c ∈ m := by
  induction m with
  | nil => simpa [Memory.set] using h
  | cons d m ih =>
    unfold Memory.set at h
    split_ifs at h with h1 h2
    · simpa using h
    · rcases List.mem_cons.1 h with h | h
      · exact .inl h
      · exact .inr (List.mem_cons_of_mem _ h)
    · rcases List.mem_cons.1 h with h | h
      · exact .inr (h ▸ List.mem_cons_self)
      · exact (ih h).imp id (List.mem_cons_of_mem _)

/-- Writing a byte at a buffer offset keeps the canonical form. -/
theorem set_wf {m : Memory} {a : Nat} {b : Byte} (hm : Memory.wf m) (ha : memBase ≤ a ∧ a < memEnd) :
    Memory.wf (Memory.set m a b) := by
  refine ⟨?_, fun c hc => (mem_set hc).elim (fun h => h ▸ ha) (hm.2 c)⟩
  obtain ⟨hp, -⟩ := hm
  induction m with
  | nil => simp [Memory.set]
  | cons d m ih =>
    rw [List.pairwise_cons] at hp
    unfold Memory.set
    split_ifs with h1 h2
    · refine List.pairwise_cons.2 ⟨fun c hc => ?_, List.pairwise_cons.2 hp⟩
      rcases List.mem_cons.1 hc with h | h
      · exact h ▸ h1
      · exact lt_trans h1 (hp.1 c h)
    · exact List.pairwise_cons.2 ⟨fun c hc => h2 ▸ hp.1 c hc, hp.2⟩
    · refine List.pairwise_cons.2 ⟨fun c hc => ?_, ih hp.2⟩
      rcases mem_set hc with h | h
      · subst h
        show d.1 < a
        omega
      · exact hp.1 c h

/-! ### A string of bytes -/

theorem get?_setBytes_out (bs : Bytes) (m : Memory) {a x : Nat} (h : ¬ (a ≤ x ∧ x < a + bs.length)) :
    Memory.get? (Memory.setBytes m a bs) x = Memory.get? m x := by
  induction bs generalizing m a with
  | nil => rfl
  | cons b bs ih =>
    rw [List.length_cons] at h
    rw [Memory.setBytes, ih _ (by omega), get?_set_ne _ _ (by omega)]

theorem get?_setBytes_in (bs : Bytes) (m : Memory) (a : Nat) {i : Nat} (h : i < bs.length) :
    Memory.get? (Memory.setBytes m a bs) (a + i) = some (byteOf bs i) := by
  induction bs generalizing m a i with
  | nil => simp at h
  | cons b bs ih =>
    cases i with
    | zero =>
      rw [Memory.setBytes, get?_setBytes_out _ _ (by omega), Nat.add_zero, get?_set_self]
      rfl
    | succ i =>
      have := ih (Memory.set m a b) (a + 1) (i := i) (by simpa using h)
      rw [Memory.setBytes, show a + (i + 1) = a + 1 + i by omega, this]
      rfl

/-- Writing a string inside the buffers keeps the canonical form. -/
theorem setBytes_wf (bs : Bytes) {m : Memory} {a : Nat} (hm : Memory.wf m)
    (ha : bs ≠ [] → memBase ≤ a ∧ a + bs.length ≤ memEnd) : Memory.wf (Memory.setBytes m a bs) := by
  induction bs generalizing m a with
  | nil => exact hm
  | cons b bs ih =>
    have h := ha (by simp)
    rw [List.length_cons] at h
    exact ih (set_wf hm (by omega)) (fun _ => by omega)

/-- The memory after reset has the canonical form: it lists nothing (70_reset_and_hazards.md R311; log 2). -/
theorem reset_mem_wf : Memory.wf State.reset.mem :=
  ⟨List.Pairwise.nil, fun _ h => nomatch h⟩

/-! ### Reading -/

/-- A byte depends on the memory and on the number of resets alone. -/
theorem byteAt_congr {s t : State} (hm : t.mem = s.mem) (hr : t.resets = s.resets) (a : Nat) :
    byteAt t a = byteAt s a := by
  simp [byteAt, hm, hr]

/-- A read after a write of a string, inside it. -/
theorem byteAt_setBytes_in {s t : State} {a : Nat} {bs : Bytes} (hm : t.mem = Memory.setBytes s.mem a bs) {i : Nat}
    (h : i < bs.length) : byteAt t (a + i) = byteOf bs i := by
  simp [byteAt, hm, get?_setBytes_in bs _ _ h]

/-- A read after a write of a string, outside it. -/
theorem byteAt_setBytes_out {s t : State} {a x : Nat} {bs : Bytes} (hm : t.mem = Memory.setBytes s.mem a bs)
    (hr : t.resets = s.resets) (h : ¬ (a ≤ x ∧ x < a + bs.length)) : byteAt t x = byteAt s x := by
  simp [byteAt, hm, hr, get?_setBytes_out bs _ h]

@[simp] theorem bytesAt_length (s : State) (a n : Nat) : (bytesAt s a n).length = n := by
  simp [bytesAt]

/-- Byte `i` of the string read from `a`. -/
theorem byteOf_bytesAt (s : State) (a : Nat) {n i : Nat} (h : i < n) : byteOf (bytesAt s a n) i = byteAt s (a + i) := by
  simp [byteOf, bytesAt, h]

/-- A string of bytes depends on its bytes alone. -/
theorem bytesAt_congr {s t : State} {a n : Nat} (h : ∀ i, i < n → byteAt t (a + i) = byteAt s (a + i)) :
    bytesAt t a n = bytesAt s a n := by
  refine List.map_congr_left fun i hi => h i (List.mem_range.1 hi)

/-- A string reads back as it was written. -/
theorem bytesAt_of_bytes {t : State} {a : Nat} {bs : Bytes} (h : ∀ i, i < bs.length → byteAt t (a + i) = byteOf bs i) :
    bytesAt t a bs.length = bs := by
  refine List.ext_getElem (by simp) fun i h1 h2 => ?_
  simp [bytesAt, h i h2, byteOf, h2]

end Sys2Proof.Machine
end

