-- ==== Sys2Proof/Laws/Ops.lean ====
section
/-!
SUPPORT. One lemma for each shared operation: all it can do, so that no later proof unfolds it.
-/

namespace Sys2Proof.Machine

/-! ### Reading and writing a buffer -/

theorem readBuf_inside {b : Buf} {a n : Nat} {s : State} {k : Bytes → BodyEnd} (h : a + n ≤ bufBytes b) :
    readBuf b a n s k = k (bytesAt s (bufBase b + a) n) :=
  if_pos h

theorem readBuf_outside {b : Buf} {a n : Nat} {s : State} {k : Bytes → BodyEnd} (h : ¬ a + n ≤ bufBytes b) :
    readBuf b a n s k = .fault .bufferOverrun :=
  if_neg h

theorem writeBuf_inside {b : Buf} {a : Nat} {bs : Bytes} {s : State} {k : State → BodyEnd}
    (h : a + bs.length ≤ bufBytes b) :
    writeBuf b a bs s k = k { s with mem := Memory.setBytes s.mem (bufBase b + a) bs } :=
  if_pos h

theorem writeBuf_outside {b : Buf} {a : Nat} {bs : Bytes} {s : State} {k : State → BodyEnd}
    (h : ¬ a + bs.length ≤ bufBytes b) : writeBuf b a bs s k = .fault .bufferOverrun :=
  if_neg h

/-! ### Running and ending a command -/

/-- A command that answers a next state ended its body, and recorded how. -/
theorem runCommand_next {i : Instr} {body : State → BodyEnd} {s t : State} :
    runCommand i body s = .next t ↔
      ∃ s' o d, body (latchOp (opcodeOf i) s) = .ended s' o d ∧ t = recordOutcome o d s' := by
  unfold runCommand conclude
  cases body (latchOp (opcodeOf i) s) with
  | ended s' o d => simp [eq_comm]
  | fault f => simp

/-- A command ends in a next state as soon as its body ends. -/
theorem runCommand_ended {i : Instr} {body : State → BodyEnd} {s s' : State} {o : OutcomeName} {d : BitVec 4}
    (h : body (latchOp (opcodeOf i) s) = .ended s' o d) : runCommand i body s = .next (recordOutcome o d s') := by
  simp [runCommand, h, conclude]

/-- A command never refuses. -/
theorem runCommand_ne_refused {i : Instr} {body : State → BodyEnd} {s : State} {r : Refusal} :
    runCommand i body s ≠ .refused r := by
  unfold runCommand conclude
  cases body (latchOp (opcodeOf i) s) <;> simp

theorem andThen_ok {f g : State → BodyEnd} {s s' : State} {d : BitVec 4} (h : f s = .ended s' .ok d) :
    andThen f g s = g s' := by
  simp [andThen, h]

theorem andThen_stop {f g : State → BodyEnd} {s s' : State} {o : OutcomeName} {d : BitVec 4}
    (h : f s = .ended s' o d) (ho : o ≠ .ok) : andThen f g s = .ended s' o d := by
  cases o <;> simp_all [andThen]

theorem andThen_fault {f g : State → BodyEnd} {s : State} {e : Fault} (h : f s = .fault e) :
    andThen f g s = .fault e := by
  simp [andThen, h]

/-- How two stages end: either the first did not end OK, or it did and the second ended so. -/
theorem andThen_ended {f g : State → BodyEnd} {s t : State} {o : OutcomeName} {d : BitVec 4}
    (h : andThen f g s = .ended t o d) :
    (f s = .ended t o d ∧ o ≠ .ok) ∨ ∃ s' d', f s = .ended s' .ok d' ∧ g s' = .ended t o d := by
  cases hf : f s with
  | fault e => rw [andThen_fault hf] at h; simp at h
  | ended s' o' d' =>
    by_cases ho : o' = .ok
    · subst ho
      rw [andThen_ok hf] at h
      exact .inr ⟨s', d', rfl, h⟩
    · rw [andThen_stop hf ho] at h
      injection h with h1 h2 h3
      subst h1 h2 h3
      exact .inl ⟨rfl, ho⟩

/-- A code of RESULT is 0 for OK alone (60_exceptions.md R281). -/
@[simp] theorem outcomeCode_eq_zero {o : OutcomeName} : outcomeCode o = 0 ↔ o = .ok := by
  cases o <;> decide

/-- Recording OK sets no error flag (60_exceptions.md R283). -/
@[simp] theorem outcomeFlag_ok : outcomeFlag .ok = 0 := rfl

/-- An outcome sets live bits of ERRFLAGS alone (10_state.md R37). -/
theorem outcomeFlag_live (o : OutcomeName) : outcomeFlag o &&& ~~~errflagsMask = 0 := by
  cases o <;> decide

/-! ### The parts of a word -/

theorem le32_bytes (b0 b1 b2 b3 : Byte) : le32 [b0, b1, b2, b3] 0 = b3 ++ b2 ++ b1 ++ b0 := rfl

/-- A word is the string of its bytes, little-endian (20_memory.md R66). -/
theorem le32_wordBytes (w : Word) : le32 (wordBytes w) 0 = w := by
  rw [wordBytes, le32_bytes]
  ext i hi
  simp only [BitVec.getElem_append, BitVec.getElem_extractLsb', Nat.zero_add]
  split_ifs
  all_goals simp [← BitVec.getLsbD_eq_getElem]
  all_goals (congr 1; omega)

@[simp] theorem wordBytes_length (w : Word) : (wordBytes w).length = 4 := rfl

/-- A 16-bit value is the string of its bytes, little-endian (00_scope.md R10). -/
theorem le16_le16Bytes (v : Half) : le16 (le16Bytes v) 0 = v := by
  show v.extractLsb' 8 8 ++ v.extractLsb' 0 8 = v
  ext i hi
  simp only [BitVec.getElem_append, BitVec.getElem_extractLsb', Nat.zero_add]
  split_ifs
  all_goals simp [← BitVec.getLsbD_eq_getElem]
  all_goals (congr 1; omega)

end Sys2Proof.Machine
end

