-- ==== Sys2Proof/Laws/Functions.lean ====
section
/-!
SUPPORT. The pure functions of spec/00_scope.md R12: the lengths and shapes of what they return.
-/

namespace Sys2Proof.Machine

@[simp] theorem xorBytes_length (a b : Bytes) : (xorBytes a b).length = min a.length b.length := by
  simp [xorBytes]

/-- Byte `i` of a bytewise xor. -/
theorem byteOf_xorBytes {a b : Bytes} {i : Nat} (ha : i < a.length) (hb : i < b.length) :
    byteOf (xorBytes a b) i = byteOf a i ^^^ byteOf b i := by
  simp [byteOf, xorBytes, ha, hb]

@[simp] theorem slice_length (b : Bytes) (lo hi : Nat) : (slice b lo hi).length = min (hi - lo) (b.length - lo) := by
  simp [slice]

/-! ### HexDecode -/

/-- HexDecode makes one byte of two characters (41_frame_parser.md R160). -/
theorem hexPairs_length : ∀ {t b : Bytes}, hexPairs t = some b → 2 * b.length = t.length
  | [], b, h => by
    injection h with h
    simp [← h]
  | [c], b, h => by simp [hexPairs] at h
  | hi :: lo :: rest, b, h => by
    unfold hexPairs at h
    split at h
    next h1 l1 r hh hl hr =>
      have := hexPairs_length hr
      injection h with h
      simp [← h]
      omega
    next => simp at h

theorem hexDecode_length {t b : Bytes} (h : hexDecode t = .ok b) : b.length = t.length / 2 := by
  unfold hexDecode at h
  split_ifs at h
  split at h
  next b' hb =>
    injection h with h
    subst h
    have := hexPairs_length hb
    omega
  next => simp at h

/-- HexDecode fails with detail 1 or 2 alone (41_frame_parser.md R160). -/
theorem hexDecode_error {t : Bytes} {d : BitVec 4} (h : hexDecode t = .error d) : d = 1 ∨ d = 2 := by
  unfold hexDecode at h
  split_ifs at h
  · injection h with h
    exact .inl h.symm
  · split at h
    next => simp at h
    next =>
      injection h with h
      exact .inr h.symm

/-! ### AES-128 and counter mode -/

@[simp] theorem shiftRows_length (s : Bytes) : (shiftRows s).length = 16 := by
  simp [shiftRows]

@[simp] theorem mixColumns_length (s : Bytes) : (mixColumns s).length = 16 := rfl

/-- A word of the key schedule has 4 bytes when the words before it have (42_decrypt.md R196). -/
theorem scheduleWord_length {w : List Bytes} (hw : ∀ x ∈ w, x.length = 4) (h4 : 4 ≤ w.length) :
    (scheduleWord w w.length).length = 4 := by
  have get (i : Nat) (hi : i < w.length) : (w.getD i []).length = 4 := by
    rw [List.getD_eq_getElem _ _ hi]
    exact hw _ (List.getElem_mem hi)
  unfold scheduleWord
  split_ifs
  · rw [xorBytes_length, get _ (by omega)]
    rfl
  · rw [xorBytes_length, get _ (by omega), get _ (by omega)]
    rfl

/-- Each word a key schedule appends has 4 bytes (42_decrypt.md R196). -/
theorem scheduleWords_length (m : Nat) {w : List Bytes} (hw : ∀ x ∈ w, x.length = 4) (h4 : 4 ≤ w.length) :
    ((List.range' w.length m).foldl (fun w j => w ++ [scheduleWord w j]) w).length = w.length + m ∧
      ∀ x ∈ (List.range' w.length m).foldl (fun w j => w ++ [scheduleWord w j]) w, x.length = 4 := by
  induction m generalizing w with
  | zero => exact ⟨rfl, hw⟩
  | succ m ih =>
    have hw' : ∀ x ∈ w ++ [scheduleWord w w.length], x.length = 4 := by
      intro x hx
      rcases List.mem_append.1 hx with hx | hx
      · exact hw x hx
      · rw [List.mem_singleton.1 hx]
        exact scheduleWord_length hw h4
    have hl : (w ++ [scheduleWord w w.length]).length = w.length + 1 := by simp
    have h := ih hw' (by omega)
    rw [hl] at h
    rw [List.range'_succ, List.foldl_cons]
    exact ⟨by omega, h.2⟩

/-- The key schedule of a 16-byte key is 44 words of 4 bytes (42_decrypt.md R196). -/
theorem keyExpansion_words {key : Bytes} (hk : key.length = 16) :
    (keyExpansion key).length = 44 ∧ ∀ w ∈ keyExpansion key, w.length = 4 := by
  have h := scheduleWords_length 40 (w := (List.range 4).map fun j => slice key (4 * j) (4 * j + 4))
    (by
      intro x hx
      obtain ⟨j, hj, rfl⟩ := List.mem_map.1 hx
      have := List.mem_range.1 hj
      rw [slice_length]
      omega)
    (by simp)
  exact h

/-- A round key has 16 bytes (42_decrypt.md R195). -/
theorem roundKey_length {key : Bytes} (hk : key.length = 16) {i : Nat} (hi : i ≤ 10) :
    (roundKey (keyExpansion key) i).length = 16 := by
  obtain ⟨hl, hw⟩ := keyExpansion_words hk
  have get (j : Nat) (hj : j < 44) : ((keyExpansion key).getD j []).length = 4 := by
    have hj' : j < (keyExpansion key).length := by omega
    rw [List.getD_eq_getElem _ _ hj']
    exact hw _ (List.getElem_mem hj')
  have hr : List.range 4 = [0, 1, 2, 3] := rfl
  rw [roundKey, hr]
  simp only [List.flatMap_cons, List.flatMap_nil, List.length_append, List.length_nil]
  rw [get _ (by omega), get _ (by omega), get _ (by omega), get _ (by omega)]

/-- AES128_Encrypt returns a 16-byte block (42_decrypt.md R190). -/
theorem aes128Encrypt_length {key : Bytes} (hk : key.length = 16) (x : Bytes) :
    (aes128Encrypt key x).length = 16 := by
  simp [aes128Encrypt, addRoundKey, roundKey_length hk]

/-- The keystream is long enough for the bytes it was asked for (42_decrypt.md R199). -/
theorem keystream_length {key : Bytes} (hk : key.length = 16) (iv14 : Bytes) (n : Nat) :
    (keystream key iv14 n).length = 16 * ((n + 15) / 16) := by
  simp [keystream, List.length_flatMap, keystreamBlock, aes128Encrypt_length hk, Nat.mul_comm]

/-- CtrCrypt returns as many bytes as it is given (42_decrypt.md R199). -/
theorem ctrCrypt_length {key : Bytes} (hk : key.length = 16) (iv14 c : Bytes) :
    (ctrCrypt key iv14 c).length = c.length := by
  simp only [ctrCrypt, xorBytes_length, keystream_length hk]
  omega

@[simp] theorem keyString_length (s : State) : (keyString s).length = 16 := by
  simp [keyString]

@[simp] theorem ivPrefix_length (s : State) : (ivPrefix s).length = 14 := by
  simp [ivPrefix, Config.ivPrefixBytes]

/-- DECRYPT's plaintext is as long as its ciphertext (42_decrypt.md R199, R201). -/
@[simp] theorem decrypted_length (s : State) (c : Bytes) : (ctrCrypt (keyString s) (ivPrefix s) c).length = c.length :=
  ctrCrypt_length (keyString_length s) _ _

/-! ### Extract -/

/-- Extract fails with detail 1, 2 or 3 alone (43_extract.md R230). -/
theorem extractFields_error {p : Bytes} {d : BitVec 4} (h : extractFields p = .error d) : d = 1 ∨ d = 2 ∨ d = 3 := by
  unfold extractFields at h
  split_ifs at h <;> injection h with h <;> simp [← h]

end Sys2Proof.Machine
end

