-- ==== Sys2Proof/Laws/Commands.lean ====
section
/-!
SUPPORT. Each command's body as one equation in which the bounds that its own checks give are used up: what it can
answer is read off without unfolding a shared operation (the order of the tests is that of spec/60_exceptions.md R288).
-/

namespace Sys2Proof.Machine

/-- The CRC window check, with no fault left in it (40_crc.md R138). -/
theorem readWindow_eq (s : State) (k : Bytes → BodyEnd) :
    readWindow s k =
      if 256 < s.frameLen.toNat then raise .rangeError 2 s
      else if s.frameLen.toNat < s.crcStart.toNat + s.crcLen.toNat then raise .rangeError 1 s
      else k (windowString s) := by
  unfold readWindow
  refine ite_congr rfl (fun _ => rfl) fun h1 => ite_congr rfl (fun _ => rfl) fun h2 => ?_
  exact readBuf_inside (by simp only [bufBytes, Config.frameBytes]; omega)

/-- HEXDEC, with no fault left in it (41_frame_parser.md R161). -/
theorem hexdecBody_eq (s : State) :
    hexdecBody s =
      if 512 < s.inLen.toNat then raise .parseError 3 (invalidate s)
      else
        match hexDecode (inText s) with
        | .error d => raise .parseError d (invalidate s)
        | .ok r =>
          finish 0 { invalidate s with mem := Memory.setBytes s.mem (bufBase .frame) r,
                                       frameLen := BitVec.ofNat 16 (s.inLen.toNat / 2) } := by
  unfold hexdecBody
  simp only [invalidate_inLen, Config.inbufChars, gt_iff_lt]
  split_ifs with h
  · rfl
  · rw [readBuf_inside (by simpa [bufBytes, Config.inbufChars] using h)]
    have ht : bytesAt (invalidate s) (bufBase .inbuf + 0) s.inLen.toNat = inText s := rfl
    rw [ht]
    cases hd : hexDecode (inText s) with
    | error d => rfl
    | ok r =>
      have hl := hexDecode_length hd
      have hi : (inText s).length = s.inLen.toNat := bytesAt_length _ _ _
      show writeBuf .frame 0 r _ _ = _
      rw [writeBuf_inside (by simp only [bufBytes, Config.frameBytes]; omega)]
      rfl

/-- PARSE, with no fault left in it (41_frame_parser.md R164). -/
theorem parseBody_eq (s : State) :
    parseBody s =
      if 256 < s.frameLen.toNat then raise .parseError 5 (invalidate s)
      else if s.frameLen.toNat < 19 then raise .parseError 4 (invalidate s)
      else
        finish 0 { invalidate s with hdr := parseHeader (frameString s), iv := deriveIV (frameString s),
                                     hdrValid := true } := by
  unfold parseBody
  have hm : Config.minFrame = 19 := rfl
  simp only [invalidate_frameLen, Config.frameBytes, gt_iff_lt, hm]
  refine ite_congr rfl (fun _ => rfl) fun h1 => ite_congr rfl (fun _ => rfl) fun _ => ?_
  rw [readBuf_inside (by simpa [bufBytes, Config.frameBytes] using h1)]
  rfl

/-- DECRYPT; its one fault is a PAY_LEN no reachable state has (42_decrypt.md R201). -/
theorem decryptBody_eq (s : State) :
    decryptBody s =
      if s.hdrValid = false then raise .sequenceError 1 s
      else if s.keyLen = 0 then raise .keyFormatError 1 s
      else if s.keyLen.toNat ≠ 16 then raise .keyFormatError 2 s
      else if s.ptValid = true then finish 1 s
      else if s.hdr.payLen.toNat < 2 then raise .crcMismatch 2 s
      else if 239 < s.hdr.payLen.toNat then .fault .bufferOverrun
      else
        if payloadCrcOk (ctrCrypt (keyString s) (ivPrefix s) (cipherText s)) then
          finish 0 { s with pcrc := pcrcWord (ctrCrypt (keyString s) (ivPrefix s) (cipherText s))
                            mem := Memory.setBytes s.mem (bufBase .pt)
                              (ctrCrypt (keyString s) (ivPrefix s) (cipherText s))
                            ptLen := s.hdr.payLen, ptValid := true }
        else
          raise .crcMismatch 1
            { s with pcrc := pcrcWord (ctrCrypt (keyString s) (ivPrefix s) (cipherText s)) } := by
  unfold decryptBody
  simp only [Config.keyBytes]
  refine ite_congr rfl (fun _ => rfl) fun _ => ite_congr rfl (fun _ => rfl) fun _ => ite_congr rfl (fun _ => rfl)
    fun _ => ite_congr rfl (fun _ => rfl) fun _ => ite_congr rfl (fun _ => rfl) fun _ => ?_
  split_ifs with h hok
  · rw [readBuf_outside (by simp only [bufBytes, Config.frameBytes, Config.hdrBytes]; omega)]
  · rw [readBuf_inside (by simp only [bufBytes, Config.frameBytes, Config.hdrBytes]; omega)]
    have hc : bytesAt s (bufBase .frame + Config.hdrBytes) s.hdr.payLen.toNat = cipherText s := rfl
    simp only [hc, hok, if_true]
    rw [writeBuf_inside]
    · rfl
    · simp only [decrypted_length, cipherText, bytesAt_length, bufBytes, Config.ptBytes]; omega
  · rw [readBuf_inside (by simp only [bufBytes, Config.frameBytes, Config.hdrBytes]; omega)]
    have hc : bytesAt s (bufBase .frame + Config.hdrBytes) s.hdr.payLen.toNat = cipherText s := rfl
    simp only [hc, hok]
    rfl

/-- EXTRACT; its one fault is a PT_LEN no reachable state has (43_extract.md R236). -/
theorem extractBody_eq (s : State) :
    extractBody s =
      if s.ptValid = false then raise .sequenceError 2 s
      else if 256 < s.ptLen.toNat then .fault .bufferOverrun
      else extractFrom .pt (plainText s) (invalidateData s) := by
  unfold extractBody
  refine ite_congr rfl (fun _ => rfl) fun _ => ?_
  split_ifs with h
  · exact readBuf_outside (by simp only [bufBytes, Config.ptBytes, invalidateData_ptLen]; omega)
  · rw [readBuf_inside (by simp only [bufBytes, Config.ptBytes, invalidateData_ptLen]; omega)]
    rfl

/-- EXTRACT_DIRECT, with no fault left in it (43_extract.md R237). -/
theorem extractDirectBody_eq (s : State) :
    extractDirectBody s =
      if 256 < s.frameLen.toNat then raise .rangeError 2 s
      else extractFrom .frame (frameString s) (invalidateData s) := by
  unfold extractDirectBody
  simp only [Config.frameBytes, gt_iff_lt]
  refine ite_congr rfl (fun _ => rfl) fun h => ?_
  rw [readBuf_inside (by simp only [bufBytes, Config.frameBytes, invalidateData_frameLen]; omega)]
  rfl

/-- CRC_CCITT (40_crc.md R139). -/
theorem crcCcittBody_eq (s : State) :
    crcCcittBody s =
      if 256 < s.frameLen.toNat then raise .rangeError 2 s
      else if s.frameLen.toNat < s.crcStart.toNat + s.crcLen.toNat then raise .rangeError 1 s
      else finish 0 { s with crcResult := ccitt16 (windowString s) } :=
  readWindow_eq s _

/-- CRC_WMBUS (40_crc.md R140). -/
theorem crcWmbusBody_eq (s : State) :
    crcWmbusBody s =
      if 256 < s.frameLen.toNat then raise .rangeError 2 s
      else if s.frameLen.toNat < s.crcStart.toNat + s.crcLen.toNat then raise .rangeError 1 s
      else finish 0 { s with crcResult := wmbus16 (windowString s) } :=
  readWindow_eq s _

/-- CHECK_TRAILER, with no fault left in it (40_crc.md R141). -/
theorem checkTrailerBody_eq (s : State) :
    checkTrailerBody s =
      if 256 < s.frameLen.toNat then raise .rangeError 2 s
      else if s.frameLen.toNat < 3 then raise .rangeError 3 s
      else
        if le16 (bytesAt s (bufBase .frame + (s.frameLen.toNat - 2)) 2) 0 =
            ccitt16 (bytesAt s (bufBase .frame + 1) (s.frameLen.toNat - 3)) then
          finish 0 { s with crcResult := ccitt16 (bytesAt s (bufBase .frame + 1) (s.frameLen.toNat - 3)) }
        else
          raise .trxCrcMismatch 1
            { s with crcResult := ccitt16 (bytesAt s (bufBase .frame + 1) (s.frameLen.toNat - 3)) } := by
  unfold checkTrailerBody
  simp only [Config.frameBytes, gt_iff_lt]
  refine ite_congr rfl (fun _ => rfl) fun h1 => ite_congr rfl (fun _ => rfl) fun h2 => ?_
  rw [readBuf_inside (by simp only [bufBytes, Config.frameBytes]; omega),
    readBuf_inside (by simp only [bufBytes, Config.frameBytes]; omega)]

/-- CHECK_PCRC (40_crc.md R142). -/
theorem checkPcrcBody_eq (s : State) :
    checkPcrcBody s =
      if 256 < s.frameLen.toNat then raise .rangeError 2 s
      else if s.frameLen.toNat < s.crcStart.toNat + s.crcLen.toNat then raise .rangeError 1 s
      else if s.crcLen.toNat < 2 then raise .rangeError 3 s
      else
        if payloadCrcOk (windowString s) then
          finish 0 { s with crcResult := payloadCrcComputed (windowString s), pcrc := pcrcWord (windowString s) }
        else
          raise .crcMismatch 1
            { s with crcResult := payloadCrcComputed (windowString s), pcrc := pcrcWord (windowString s) } := by
  unfold checkPcrcBody
  rw [readWindow_eq]
  simp only [windowString, bytesAt_length]

end Sys2Proof.Machine
end

