-- ==== Sys2Proof/Laws/Inversion.lean ====
section
/-!
SUPPORT. One lemma for each command's body: if it ends, then in one of these ways, with this state, this outcome and
these tests passed. A proof about what commands do is a case analysis of these.
-/

namespace Sys2Proof.Machine

variable {s t : State} {o : OutcomeName} {d : BitVec 4}

/-- How HEXDEC ends (41_frame_parser.md R161). -/
theorem hexdecBody_ended (h : hexdecBody s = .ended t o d) :
    (o = .parseError ∧ (d = 1 ∨ d = 2 ∨ d = 3) ∧ t = invalidate s) ∨
    ∃ r, o = .ok ∧ d = 0 ∧ s.inLen.toNat ≤ 512 ∧ hexDecode (inText s) = .ok r ∧
      t = { invalidate s with mem := Memory.setBytes s.mem (bufBase .frame) r,
                              frameLen := BitVec.ofNat 16 (s.inLen.toNat / 2) } := by
  rw [hexdecBody_eq] at h
  split_ifs at h with hn
  · cases h
    exact .inl ⟨rfl, .inr (.inr rfl), rfl⟩
  · cases hd : hexDecode (inText s) with
    | error e =>
      rw [hd] at h
      cases h
      refine .inl ⟨rfl, ?_, rfl⟩
      rcases hexDecode_error hd with rfl | rfl
      · exact .inl rfl
      · exact .inr (.inl rfl)
    | ok r =>
      rw [hd] at h
      cases h
      exact .inr ⟨r, rfl, rfl, by omega, rfl, rfl⟩

/-- How PARSE ends (41_frame_parser.md R164). -/
theorem parseBody_ended (h : parseBody s = .ended t o d) :
    (o = .parseError ∧ (d = 4 ∨ d = 5) ∧ t = invalidate s) ∨
    (o = .ok ∧ d = 0 ∧ 19 ≤ s.frameLen.toNat ∧ s.frameLen.toNat ≤ 256 ∧
      t = { invalidate s with hdr := parseHeader (frameString s), iv := deriveIV (frameString s),
                              hdrValid := true }) := by
  rw [parseBody_eq] at h
  split_ifs at h with h1 h2
  · cases h
    exact .inl ⟨rfl, .inr rfl, rfl⟩
  · cases h
    exact .inl ⟨rfl, .inl rfl, rfl⟩
  · cases h
    exact .inr ⟨rfl, rfl, by omega, by omega, rfl⟩

/-- How DECRYPT ends (42_decrypt.md R201): refused before the cipher runs, or already decrypted, or with a payload that
fails its CRC, or with one that passes. -/
theorem decryptBody_ended (h : decryptBody s = .ended t o d) :
    (((o = .sequenceError ∧ d = 1) ∨ (o = .keyFormatError ∧ (d = 1 ∨ d = 2)) ∨ (o = .crcMismatch ∧ d = 2)) ∧ t = s) ∨
    (o = .ok ∧ d = 1 ∧ s.hdrValid = true ∧ s.ptValid = true ∧ t = s) ∨
    (o = .crcMismatch ∧ d = 1 ∧ t = { s with pcrc := pcrcWord (ctrCrypt (keyString s) (ivPrefix s) (cipherText s)) }) ∨
    (o = .ok ∧ d = 0 ∧ s.hdrValid = true ∧ s.ptValid = false ∧ s.keyLen.toNat = 16 ∧ 2 ≤ s.hdr.payLen.toNat ∧
      s.hdr.payLen.toNat ≤ 239 ∧ payloadCrcOk (ctrCrypt (keyString s) (ivPrefix s) (cipherText s)) = true ∧
      t = { s with pcrc := pcrcWord (ctrCrypt (keyString s) (ivPrefix s) (cipherText s)),
                   mem := Memory.setBytes s.mem (bufBase .pt) (ctrCrypt (keyString s) (ivPrefix s) (cipherText s)),
                   ptLen := s.hdr.payLen, ptValid := true }) := by
  rw [decryptBody_eq] at h
  split_ifs at h with h1 h2 h3 h4 h5 h6 h7 <;> cases h
  · exact .inl ⟨.inl ⟨rfl, rfl⟩, rfl⟩
  · exact .inl ⟨.inr (.inl ⟨rfl, .inl rfl⟩), rfl⟩
  · exact .inl ⟨.inr (.inl ⟨rfl, .inr rfl⟩), rfl⟩
  · exact .inr (.inl ⟨rfl, rfl, by simpa using h1, h4, rfl⟩)
  · exact .inl ⟨.inr (.inr ⟨rfl, rfl⟩), rfl⟩
  · exact .inr (.inr (.inr ⟨rfl, rfl, by simpa using h1, by simpa using h4, by simpa using h3, by omega, by omega, h7,
      rfl⟩))
  · exact .inr (.inr (.inl ⟨rfl, rfl, rfl⟩))

/-- How an extraction ends once its payload is read (43_extract.md R235 to R237). -/
theorem extractFrom_ended {src : Source} {p : Bytes} (h : extractFrom src p s = .ended t o d) :
    (o = .noData ∧ (d = 1 ∨ d = 2 ∨ d = 3) ∧ extractFields p = .error d ∧ t = s) ∨
    ∃ x, o = .ok ∧ d = 0 ∧ extractFields p = .ok x ∧ t = storeExtraction x src s := by
  unfold extractFrom at h
  cases hx : extractFields p with
  | error e =>
    rw [hx] at h
    cases h
    exact .inl ⟨rfl, extractFields_error hx, rfl, rfl⟩
  | ok x =>
    rw [hx] at h
    cases h
    exact .inr ⟨x, rfl, rfl, rfl, rfl⟩

/-- How EXTRACT ends (43_extract.md R236). -/
theorem extractBody_ended (h : extractBody s = .ended t o d) :
    (o = .sequenceError ∧ d = 2 ∧ s.ptValid = false ∧ t = s) ∨
    (s.ptValid = true ∧ s.ptLen.toNat ≤ 256 ∧ o = .noData ∧ (d = 1 ∨ d = 2 ∨ d = 3) ∧
      extractFields (plainText s) = .error d ∧ t = invalidateData s) ∨
    ∃ x, s.ptValid = true ∧ s.ptLen.toNat ≤ 256 ∧ o = .ok ∧ d = 0 ∧ extractFields (plainText s) = .ok x ∧
      t = storeExtraction x .pt (invalidateData s) := by
  rw [extractBody_eq] at h
  split_ifs at h with h1 h2
  · cases h
    exact .inl ⟨rfl, rfl, h1, rfl⟩
  · have hp : s.ptValid = true := by simpa using h1
    rcases extractFrom_ended h with ⟨ho, hd, hx, ht⟩ | ⟨x, ho, hd, hx, ht⟩
    · exact .inr (.inl ⟨hp, by omega, ho, hd, hx, ht⟩)
    · exact .inr (.inr ⟨x, hp, by omega, ho, hd, hx, ht⟩)

/-- How EXTRACT_DIRECT ends (43_extract.md R237). -/
theorem extractDirectBody_ended (h : extractDirectBody s = .ended t o d) :
    (o = .rangeError ∧ d = 2 ∧ t = s) ∨
    (s.frameLen.toNat ≤ 256 ∧ o = .noData ∧ (d = 1 ∨ d = 2 ∨ d = 3) ∧
      extractFields (frameString s) = .error d ∧ t = invalidateData s) ∨
    ∃ x, s.frameLen.toNat ≤ 256 ∧ o = .ok ∧ d = 0 ∧ extractFields (frameString s) = .ok x ∧
      t = storeExtraction x .frame (invalidateData s) := by
  rw [extractDirectBody_eq] at h
  split_ifs at h with h1
  · cases h
    exact .inl ⟨rfl, rfl, rfl⟩
  · rcases extractFrom_ended h with ⟨ho, hd, hx, ht⟩ | ⟨x, ho, hd, hx, ht⟩
    · exact .inr (.inl ⟨by omega, ho, hd, hx, ht⟩)
    · exact .inr (.inr ⟨x, by omega, ho, hd, hx, ht⟩)

/-- How CRC_CCITT ends (40_crc.md R139). -/
theorem crcCcittBody_ended (h : crcCcittBody s = .ended t o d) :
    (o = .rangeError ∧ (d = 1 ∨ d = 2) ∧ t = s) ∨
    (o = .ok ∧ d = 0 ∧ t = { s with crcResult := ccitt16 (windowString s) }) := by
  rw [crcCcittBody_eq] at h
  split_ifs at h <;> cases h
  · exact .inl ⟨rfl, .inr rfl, rfl⟩
  · exact .inl ⟨rfl, .inl rfl, rfl⟩
  · exact .inr ⟨rfl, rfl, rfl⟩

/-- How CRC_WMBUS ends (40_crc.md R140). -/
theorem crcWmbusBody_ended (h : crcWmbusBody s = .ended t o d) :
    (o = .rangeError ∧ (d = 1 ∨ d = 2) ∧ t = s) ∨
    (o = .ok ∧ d = 0 ∧ t = { s with crcResult := wmbus16 (windowString s) }) := by
  rw [crcWmbusBody_eq] at h
  split_ifs at h <;> cases h
  · exact .inl ⟨rfl, .inr rfl, rfl⟩
  · exact .inl ⟨rfl, .inl rfl, rfl⟩
  · exact .inr ⟨rfl, rfl, rfl⟩

/-- How CHECK_TRAILER ends (40_crc.md R141). -/
theorem checkTrailerBody_ended (h : checkTrailerBody s = .ended t o d) :
    (o = .rangeError ∧ (d = 2 ∨ d = 3) ∧ t = s) ∨
    (((o = .ok ∧ d = 0) ∨ (o = .trxCrcMismatch ∧ d = 1)) ∧
      t = { s with crcResult := ccitt16 (bytesAt s (bufBase .frame + 1) (s.frameLen.toNat - 3)) }) := by
  rw [checkTrailerBody_eq] at h
  split_ifs at h <;> cases h
  · exact .inl ⟨rfl, .inl rfl, rfl⟩
  · exact .inl ⟨rfl, .inr rfl, rfl⟩
  · exact .inr ⟨.inl ⟨rfl, rfl⟩, rfl⟩
  · exact .inr ⟨.inr ⟨rfl, rfl⟩, rfl⟩

/-- How CHECK_PCRC ends (40_crc.md R142). -/
theorem checkPcrcBody_ended (h : checkPcrcBody s = .ended t o d) :
    (o = .rangeError ∧ (d = 1 ∨ d = 2 ∨ d = 3) ∧ t = s) ∨
    (((o = .ok ∧ d = 0) ∨ (o = .crcMismatch ∧ d = 1)) ∧
      t = { s with crcResult := payloadCrcComputed (windowString s), pcrc := pcrcWord (windowString s) }) := by
  rw [checkPcrcBody_eq] at h
  split_ifs at h <;> cases h
  · exact .inl ⟨rfl, .inr (.inl rfl), rfl⟩
  · exact .inl ⟨rfl, .inl rfl, rfl⟩
  · exact .inl ⟨rfl, .inr (.inr rfl), rfl⟩
  · exact .inr ⟨.inl ⟨rfl, rfl⟩, rfl⟩
  · exact .inr ⟨.inr ⟨rfl, rfl⟩, rfl⟩

/-! ### All commands at once -/

/-- The body of each command. -/
def bodyOf : Instr → State → BodyEnd
  | .nop => nopBody
  | .hexdec => hexdecBody
  | .parse => parseBody
  | .decrypt => decryptBody
  | .extract => extractBody
  | .extractDirect => extractDirectBody
  | .crcCcitt => crcCcittBody
  | .crcWmbus => crcWmbusBody
  | .checkTrailer => checkTrailerBody
  | .checkPcrc => checkPcrcBody
  | .process => processBody
  | .processBin => processBinBody
  | .clear => clearBody

/-- Every command runs its body in the same way (44_control.md R259). -/
theorem exec_eq (i : Instr) (s : State) : exec i s = runCommand i (bodyOf i) s := by
  cases i <;> rfl

/-- A command answers a next state exactly where its body ends. -/
theorem exec_next {i : Instr} :
    exec i s = .next t ↔ ∃ s' o d, bodyOf i (latchOp (opcodeOf i) s) = .ended s' o d ∧ t = recordOutcome o d s' := by
  rw [exec_eq, runCommand_next]

/-- The outcome and the state of a body that ends, as the next state of its command. -/
theorem exec_ended {i : Instr} (h : bodyOf i (latchOp (opcodeOf i) s) = .ended t o d) :
    exec i s = .next (recordOutcome o d t) := by
  rw [exec_eq, runCommand_ended h]

end Sys2Proof.Machine
end

