-- ==== Sys2Proof/Laws/Frames.lean ====
section
/-!
SUPPORT. What no command's body touches (the host's operands, the outcome, the port), and that a body neither reads nor
writes LAST_OP, the outcome or ERRFLAGS: the frame every command and every stage of a pipeline shares.
-/

namespace Sys2Proof.Machine

/-! ### What every body keeps -/

/-- What no command's body writes (10_state.md R22 to R27, R34 to R37; log 1, log 2, log 3). -/
structure Kept (s t : State) : Prop where
  inLen : t.inLen = s.inLen
  crcStart : t.crcStart = s.crcStart
  crcLen : t.crcLen = s.crcLen
  keyLen : t.keyLen = s.keyLen
  key : t.key = s.key
  pending : t.pending = s.pending
  response : t.response = s.response
  resets : t.resets = s.resets
  lastOp : t.lastOp = s.lastOp
  result : t.result = s.result
  detail : t.detail = s.detail
  errflags : t.errflags = s.errflags

theorem Kept.trans {s t u : State} (h : Kept s t) (g : Kept t u) : Kept s u := by
  cases h
  cases g
  constructor <;> simp [*]

section

variable {s t : State} {o : OutcomeName} {d : BitVec 4}

theorem kept_hexdec (h : hexdecBody s = .ended t o d) : Kept s t := by
  rcases hexdecBody_ended h with ⟨-, -, rfl⟩ | ⟨r, -, -, -, -, rfl⟩ <;> constructor <;> rfl

theorem kept_parse (h : parseBody s = .ended t o d) : Kept s t := by
  rcases parseBody_ended h with ⟨-, -, rfl⟩ | ⟨-, -, -, -, rfl⟩ <;> constructor <;> rfl

theorem kept_decrypt (h : decryptBody s = .ended t o d) : Kept s t := by
  rcases decryptBody_ended h with ⟨-, rfl⟩ | ⟨-, -, -, -, rfl⟩ | ⟨-, -, rfl⟩ | ⟨-, -, -, -, -, -, -, -, rfl⟩ <;>
    constructor <;> rfl

theorem kept_extract (h : extractBody s = .ended t o d) : Kept s t := by
  rcases extractBody_ended h with ⟨-, -, -, rfl⟩ | ⟨-, -, -, -, -, rfl⟩ | ⟨x, -, -, -, -, -, rfl⟩ <;>
    constructor <;> rfl

end

/-- Two stages keep what each of them keeps. -/
theorem kept_andThen {f g : State → BodyEnd} (hf : ∀ {s t o d}, f s = .ended t o d → Kept s t)
    (hg : ∀ {s t o d}, g s = .ended t o d → Kept s t) {s t : State} {o : OutcomeName} {d : BitVec 4}
    (h : andThen f g s = .ended t o d) : Kept s t := by
  rcases andThen_ended h with ⟨h, -⟩ | ⟨u, _, h1, h2⟩
  · exact hf h
  · exact (hf h1).trans (hg h2)

/-- What no command's body writes, for every command. -/
theorem kept_body {i : Instr} {s t : State} {o : OutcomeName} {d : BitVec 4} (h : bodyOf i s = .ended t o d) :
    Kept s t := by
  cases i <;> simp only [bodyOf] at h
  · cases h
    constructor <;> rfl
  · exact kept_hexdec h
  · exact kept_parse h
  · exact kept_decrypt h
  · exact kept_extract h
  · rcases extractDirectBody_ended h with ⟨-, -, rfl⟩ | ⟨-, -, -, -, rfl⟩ | ⟨x, -, -, -, -, rfl⟩ <;>
      constructor <;> rfl
  · rcases crcCcittBody_ended h with ⟨-, -, rfl⟩ | ⟨-, -, rfl⟩ <;> constructor <;> rfl
  · rcases crcWmbusBody_ended h with ⟨-, -, rfl⟩ | ⟨-, -, rfl⟩ <;> constructor <;> rfl
  · rcases checkTrailerBody_ended h with ⟨-, -, rfl⟩ | ⟨-, rfl⟩ <;> constructor <;> rfl
  · rcases checkPcrcBody_ended h with ⟨-, -, rfl⟩ | ⟨-, rfl⟩ <;> constructor <;> rfl
  · exact kept_andThen kept_hexdec (kept_andThen kept_parse (kept_andThen kept_decrypt kept_extract)) h
  · exact kept_andThen kept_parse (kept_andThen kept_decrypt kept_extract) h
  · cases h
    constructor <;> rfl

/-! ### What no body reads -/

/-- Another LAST_OP, outcome and ERRFLAGS. -/
def withOutcome (l : Byte) (r d : BitVec 4) (e : Word) (s : State) : State :=
  { s with lastOp := l, result := r, detail := d, errflags := e }

/-- A change of the state a body ends with. -/
def mapEnd (f : State → State) : BodyEnd → BodyEnd
  | .ended s o d => .ended (f s) o d
  | .fault e => .fault e

theorem mapEnd_ite (f : State → State) (c : Prop) [Decidable c] (a b : BodyEnd) :
    mapEnd f (if c then a else b) = if c then mapEnd f a else mapEnd f b := by
  split_ifs <;> rfl

/-- A body runs alike under any LAST_OP, outcome and ERRFLAGS, and carries them along. -/
def OutcomeBlind (f : State → BodyEnd) : Prop :=
  ∀ l r d e s, f (withOutcome l r d e s) = mapEnd (withOutcome l r d e) (f s)

theorem hexdecBody_blind : OutcomeBlind hexdecBody := by
  intro l r d e s
  rw [hexdecBody_eq, hexdecBody_eq]
  have ht : inText (withOutcome l r d e s) = inText s := rfl
  rw [ht, mapEnd_ite]
  cases hexDecode (inText s) <;> rfl

theorem parseBody_blind : OutcomeBlind parseBody := by
  intro l r d e s
  rw [parseBody_eq, parseBody_eq]
  simp only [mapEnd_ite]
  rfl

theorem decryptBody_blind : OutcomeBlind decryptBody := by
  intro l r d e s
  rw [decryptBody_eq, decryptBody_eq]
  have h1 : keyString (withOutcome l r d e s) = keyString s := rfl
  have h2 : ivPrefix (withOutcome l r d e s) = ivPrefix s := rfl
  have h3 : cipherText (withOutcome l r d e s) = cipherText s := rfl
  rw [h1, h2, h3]
  simp only [mapEnd_ite]
  rfl

theorem extractBody_blind : OutcomeBlind extractBody := by
  intro l r d e s
  rw [extractBody_eq, extractBody_eq]
  have hp : plainText (withOutcome l r d e s) = plainText s := rfl
  have hx : extractFrom .pt (plainText s) (invalidateData (withOutcome l r d e s)) =
      mapEnd (withOutcome l r d e) (extractFrom .pt (plainText s) (invalidateData s)) := by
    unfold extractFrom
    cases extractFields (plainText s) <;> rfl
  rw [hp, hx]
  simp only [mapEnd_ite]
  rfl

theorem andThen_blind {f g : State → BodyEnd} (hf : OutcomeBlind f) (hg : OutcomeBlind g) :
    OutcomeBlind (andThen f g) := by
  intro l r d e s
  unfold andThen
  rw [hf]
  cases f s with
  | fault => rfl
  | ended t o d' => cases o <;> first | exact hg .. | rfl

end Sys2Proof.Machine
end

