-- ==== Sys2Proof/Laws/PerInstr.lean ====
section
/-!
SUPPORT. A fact about every command as syntax, one lemma per constructor: its word has no reserved bit set, its opcode
byte selects it, and it is well formed (30_encoding.md R90, R91).
-/

namespace Sys2Proof.Laws.OpcodeSelects

/-- The word of the command has RSVD = 0, its low byte selects the command, and the command is well formed. -/
def Statement (i : Instr) : Prop :=
  (encode i).extractLsb' 8 24 = 0 ∧ decodeOpcode ((encode i).extractLsb' 0 8) = some i ∧ instrWf i = true

theorem nop : Statement .nop := ⟨rfl, rfl, rfl⟩

theorem hexdec : Statement .hexdec := ⟨rfl, rfl, rfl⟩

theorem parse : Statement .parse := ⟨rfl, rfl, rfl⟩

theorem decrypt : Statement .decrypt := ⟨rfl, rfl, rfl⟩

theorem extract : Statement .extract := ⟨rfl, rfl, rfl⟩

theorem extractDirect : Statement .extractDirect := ⟨rfl, rfl, rfl⟩

theorem crcCcitt : Statement .crcCcitt := ⟨rfl, rfl, rfl⟩

theorem crcWmbus : Statement .crcWmbus := ⟨rfl, rfl, rfl⟩

theorem checkTrailer : Statement .checkTrailer := ⟨rfl, rfl, rfl⟩

theorem checkPcrc : Statement .checkPcrc := ⟨rfl, rfl, rfl⟩

theorem process : Statement .process := ⟨rfl, rfl, rfl⟩

theorem processBin : Statement .processBin := ⟨rfl, rfl, rfl⟩

theorem clear : Statement .clear := ⟨rfl, rfl, rfl⟩

end Sys2Proof.Laws.OpcodeSelects
end

