-- ==== Sys2Proof/Laws/Port.lean ====
section
/-!
SUPPORT. The port: what a step is for each event at the head of the queue, and all that a step or a host write can do.
-/

namespace Sys2Proof.Machine

/-! ### Serving the head of the queue -/

/-- A step serves the event at the head of the queue. -/
theorem step_event {s : State} {e : Event} {rest : List Event} (h : s.pending = e :: rest) :
    step s = serveEvent e { s with pending := rest } := by
  simp [step, servePending, h]

theorem aligned_iff {off : Offset} : aligned off = true ↔ off.extractLsb' 0 2 = 0 := by
  simp [aligned]

theorem aligned_false {off : Offset} : aligned off = false ↔ off.extractLsb' 0 2 ≠ 0 := by
  simp [aligned]

/-- CMD is at offset 0 and nowhere else (20_memory.md R63). -/
theorem locate_cmd : ∀ {off : Offset}, locate off = .reg .cmd → off = 0x000 := by
  decide +kernel

/-- A word of a buffer lies inside it (20_memory.md R63). -/
theorem locate_word_inside {off : Offset} {b : Buf} {k : Nat} (h : locate off = .word b k) :
    4 * k + 4 ≤ bufBytes b := by
  unfold locate at h
  dsimp only at h
  split_ifs at h with h1 h2 h3
  · injection h with h h'
    subst h h'
    simp only [bufBytes, Config.inbufChars]
    omega
  · injection h with h h'
    subst h h'
    simp only [bufBytes, Config.frameBytes]
    omega
  · injection h with h h'
    subst h h'
    simp only [bufBytes, Config.ptBytes]
    omega
  · split at h <;> cases h

/-! ### All that a host write and a step can do -/

/-- An aligned host write to anything but CMD does one of these: it changes operand registers or clears error flags; it
changes FRAME_LEN and clears the valid flags; it stores a word in INBUF; it stores a word in FRAME and clears the valid
flags (20_memory.md R63 to R67). -/
theorem writeTarget_cases (off : Offset) (w : Word) (s : State) :
    (∃ k n c1 c2 l m, writeTarget (locate off) w s =
      { s with key := k, inLen := n, crcStart := c1, crcLen := c2, keyLen := l, errflags := s.errflags &&& m }) ∨
    (∃ n, writeTarget (locate off) w s = invalidate { s with frameLen := n }) ∨
    (∃ k, 4 * k + 4 ≤ 512 ∧ writeTarget (locate off) w s =
      { s with mem := Memory.setBytes s.mem (bufBase .inbuf + 4 * k) (wordBytes w) }) ∨
    (∃ k, 4 * k + 4 ≤ 256 ∧ writeTarget (locate off) w s =
      invalidate { s with mem := Memory.setBytes s.mem (bufBase .frame + 4 * k) (wordBytes w) }) := by
  have same : ∃ k n c1 c2 l m, s =
      { s with key := k, inLen := n, crcStart := c1, crcLen := c2, keyLen := l, errflags := s.errflags &&& m } :=
    ⟨s.key, s.inLen, s.crcStart, s.crcLen, s.keyLen, BitVec.allOnes 32, by rw [BitVec.and_allOnes]⟩
  have keep (t : State)
      (h : t = { s with
        key := t.key, inLen := t.inLen, crcStart := t.crcStart, crcLen := t.crcLen, keyLen := t.keyLen }) : ∃ k n c1 c2 l m, t =
      { s with key := k, inLen := n, crcStart := c1, crcLen := c2, keyLen := l, errflags := s.errflags &&& m } :=
    ⟨t.key, t.inLen, t.crcStart, t.crcLen, t.keyLen, BitVec.allOnes 32, by rw [BitVec.and_allOnes]; exact h⟩
  cases hl : locate off with
  | unmapped => exact .inl same
  | word b k =>
    have hk := locate_word_inside hl
    cases b with
    | inbuf => exact .inr (.inr (.inl ⟨k, hk, rfl⟩))
    | frame => exact .inr (.inr (.inr ⟨k, hk, rfl⟩))
    | pt => exact .inl same
  | reg n =>
    cases n
    case errflags => exact .inl ⟨s.key, s.inLen, s.crcStart, s.crcLen, s.keyLen, ~~~(w &&& errflagsMask), rfl⟩
    case frameLen => exact .inr (.inl ⟨w.extractLsb' 0 16, rfl⟩)
    case inLen => exact .inl (keep _ rfl)
    case crcStart => exact .inl (keep _ rfl)
    case crcLen => exact .inl (keep _ rfl)
    case keyLen => exact .inl (keep _ rfl)
    case key0 => exact .inl (keep _ rfl)
    case key1 => exact .inl (keep _ rfl)
    case key2 => exact .inl (keep _ rfl)
    case key3 => exact .inl (keep _ rfl)
    all_goals exact .inl same

/-- A step of the block does one of these: it waits; it resets; it answers a transaction that changes nothing; it runs
a command; it records an illegal command word; it serves an aligned write to anything but CMD. -/
theorem step_cases (s : State) :
    (s.pending = [] ∧ step s = .next s) ∨
    (∃ rest, s.pending = .reset :: rest ∧
      step s = .next { State.reset with pending := rest, resets := s.resets + 1 }) ∨
    (∃ e rest r, s.pending = e :: rest ∧ step s = .next (answer r { s with pending := rest })) ∨
    (∃ w i rest, s.pending = .txn (.write 0x000 w) :: rest ∧ decode w = .ok i ∧
      step s = exec i (answer .writeDone { s with pending := rest })) ∨
    (∃ w e rest, s.pending = .txn (.write 0x000 w) :: rest ∧ decode w = .error e ∧
      step s = .next (illegalCommand w e (answer .writeDone { s with pending := rest }))) ∨
    (∃ off w rest, s.pending = .txn (.write off w) :: rest ∧ locate off ≠ .reg .cmd ∧
      step s = .next (writeTarget (locate off) w (answer .writeDone { s with pending := rest }))) := by
  cases hp : s.pending with
  | nil => exact .inl ⟨rfl, by simp [step, servePending, hp]⟩
  | cons e rest =>
    have hs := step_event hp
    rcases e with t | _
    · rcases t with off | ⟨off, w⟩
      · refine .inr (.inr (.inl ?_))
        by_cases ha : aligned off = true
        · exact ⟨_, rest, _, rfl, by rw [hs]; exact if_pos ha⟩
        · exact ⟨_, rest, _, rfl, by rw [hs]; exact if_neg ha⟩
      · by_cases ha : aligned off = true
        · have hw : step s = serveWrite (locate off) w (answer .writeDone { s with pending := rest }) := by
            rw [hs]
            exact if_pos ha
          by_cases hc : locate off = .reg .cmd
          · have h0 := locate_cmd hc
            subst h0
            have hw : step s = commandWrite w (answer .writeDone { s with pending := rest }) := hw
            cases hd : decode w with
            | ok i => exact .inr (.inr (.inr (.inl ⟨w, i, rest, rfl, hd, by rw [hw, commandWrite, hd]⟩)))
            | error e =>
              exact .inr (.inr (.inr (.inr (.inl ⟨w, e, rest, rfl, hd, by rw [hw, commandWrite, hd]⟩))))
          · refine .inr (.inr (.inr (.inr (.inr ⟨off, w, rest, rfl, hc, ?_⟩))))
            rw [hw, serveWrite, if_neg hc]
        · refine .inr (.inr (.inl ⟨_, rest, .writeBusError, rfl, ?_⟩))
          rw [hs]
          exact if_neg ha
    · exact .inr (.inl ⟨rest, rfl, hs⟩)

end Sys2Proof.Machine
end

