-- ==== Sys2Proof/Tests/Slice0.lean ====
section
/-!
SUPPORT. The model's own tests: what is ill formed is refused, every command's word decodes, one step of each command on
a vector of spec/95_test_vectors.md, and for each statement with hypotheses a witness that meets them together.
-/

namespace Sys2Proof.Tests

/- One test after another: checked at once, each of the many small kernel evaluations below holds a thread of its own. -/
set_option Elab.async false

open Sys2Proof Sys2Proof.Machine Sys2Proof.Safety

/-! ### Well-formedness: an ill-formed term for each check -/

theorem test_reserved_bit_refused : reservedClear { rsvd := 1, opcode := 0x10 } = false := by decide
theorem test_undefined_opcode_refused : opcodeDefined { rsvd := 0, opcode := 0x06 } = false := by decide
theorem test_cmdWord_refuses_reserved : cmdWordWf { rsvd := 0x800000, opcode := 0x00 } = false := by decide
theorem test_cmdWord_refuses_opcode : cmdWordWf { rsvd := 0, opcode := 0xFF } = false := by decide
theorem test_process_is_well_formed : instrWf .process = true := by decide
theorem test_misaligned_refused : aligned 0x402 = false := by decide
theorem test_read_misaligned_refused : txnWf (.read 0x001) = false := by decide
theorem test_write_misaligned_refused : txnWf (.write 0x003 0x10) = false := by decide
theorem test_register_index_refused : hostIndexWf (.reg .status) 1 = false := by decide
theorem test_inbuf_index_refused : hostIndexWf (.buf .inbuf) 128 = false := by decide
theorem test_frame_index_refused : hostIndexWf (.buf .frame) 64 = false := by decide
theorem test_pt_last_index_accepted : hostIndexWf (.buf .pt) 63 = true := by decide
theorem test_short_key_line_refused : hostLineWf (.loadKey [0x01, 0x02, 0x03]) = false := by decide
theorem test_long_text_line_refused : hostLineWf (.loadHex (List.replicate 513 0x30)) = false := by decide +kernel
theorem test_long_frame_line_refused : hostLineWf (.loadFrame (List.replicate 257 0)) = false := by decide +kernel
theorem test_read_line_refused : hostLineWf (.rd (.reg .cmd) 2) = false := by decide
theorem test_write_line_refused : hostLineWf (.wr (.buf .frame) 64 0) = false := by decide
theorem test_expect_line_refused : hostLineWf (.expect (.reg .val0) 1 0) = false := by decide

/-! ### Decoding: every command's word, written out from the opcode map (30_encoding.md R90, R91) -/

theorem test_decode_nop : decode 0b00000000000000000000000000000000 = .ok .nop := rfl
theorem test_decode_hexdec : decode 0b00000000000000000000000000000001 = .ok .hexdec := rfl
theorem test_decode_parse : decode 0b00000000000000000000000000000010 = .ok .parse := rfl
theorem test_decode_decrypt : decode 0b00000000000000000000000000000011 = .ok .decrypt := rfl
theorem test_decode_extract : decode 0b00000000000000000000000000000100 = .ok .extract := rfl
theorem test_decode_extractDirect : decode 0b00000000000000000000000000000101 = .ok .extractDirect := rfl
theorem test_decode_crcCcitt : decode 0b00000000000000000000000000001000 = .ok .crcCcitt := rfl
theorem test_decode_crcWmbus : decode 0b00000000000000000000000000001001 = .ok .crcWmbus := rfl
theorem test_decode_checkTrailer : decode 0b00000000000000000000000000001010 = .ok .checkTrailer := rfl
theorem test_decode_checkPcrc : decode 0b00000000000000000000000000001011 = .ok .checkPcrc := rfl
theorem test_decode_process : decode 0b00000000000000000000000000010000 = .ok .process := rfl
theorem test_decode_processBin : decode 0b00000000000000000000000000010001 = .ok .processBin := rfl
theorem test_decode_clear : decode 0b00000000000000000000000000011111 = .ok .clear := rfl
theorem test_decode_undefined : decode 0b00000000000000000000000000000110 = .error .undefinedOpcode := rfl
theorem test_decode_reserved : decode 0b10000000000000000000000000010000 = .error .reservedBits := rfl
theorem test_decode_reserved_first : decode 0b00000000000000000000000100000110 = .error .reservedBits := rfl
theorem test_table_word_reads_a_row : decodeTableWord 32 0x1F = some .clear := rfl
theorem test_table_word_short_row : decodeTableWord 8 0x10 = some .process := rfl
theorem test_table_word_refused : decodeTableWord 32 0x0C = none := rfl

/-- The step after `withFetchWord` runs the command as the first one after reset. -/
theorem test_withFetchWord_runs : step (State.reset.withFetchWord 32 0x1F) =
    exec .clear (served [] .writeDone State.reset) := rfl

/-! ### States for the steps below -/

/-- FRAME holds a byte string and FRAME_LEN its length; everything else is as after reset. -/
def withFrame (b : Bytes) : State :=
  { State.reset with mem := Memory.setBytes [] 0x600 b, frameLen := BitVec.ofNat 16 b.length }

/-- The two hex digits of each byte, in lower case. -/
def hexText (b : Bytes) : Bytes :=
  b.flatMap fun x : Byte => ([x >>> 4, x &&& 0xF] : Bytes).map fun d : Byte => if d < 10 then 0x30 + d else 0x57 + d

/-- INBUF holds a text and IN_LEN its length; everything else is as after reset. -/
def withText (t : Bytes) : State :=
  { State.reset with mem := Memory.setBytes [] 0x400 t, inLen := BitVec.ofNat 16 t.length }

/-- The same state with a 16-byte key. -/
def withKey (k : Vector Byte 16) (s : State) : State :=
  { s with key := k, keyLen := 16 }

/-- The registers PARSE writes for the frame of a state. -/
def afterParse (s : State) : State :=
  { s with hdr := parseHeader (frameString s), iv := deriveIV (frameString s), hdrValid := true }

/-- A plaintext in PT, as DECRYPT leaves it. -/
def withPlain (p : Bytes) (s : State) : State :=
  { s with mem := Memory.setBytes s.mem 0x700 p, ptLen := BitVec.ofNat 16 p.length, ptValid := true }

/-- A state with one transaction queued. -/
def queued (e : Event) : State :=
  { State.reset with pending := [e] }

/-- A fact about the state a step or a command answers; false where it stops. -/
def gives (o : Host.Outcome State Fault Refusal) (f : State → Bool) : Bool :=
  match o with
  | .next t => f t
  | _ => false

/-- STATUS, ERRFLAGS and PCRC of a state. -/
def statusErrPcrc (s : State) : Word × Word × Word :=
  (statusWord s, s.errflags, s.pcrc)

/-- VAL0 to VAL3 and VAL_FOUND. -/
def tuple (s : State) : Word × Word × Word × Word × BitVec 4 :=
  (s.val0, s.val1, s.val2, s.val3, s.valFound)

/-- The telegram E2E of 95_test_vectors.md. -/
def e2e : Bytes :=
  [0x27, 0x44, 0x2D, 0x2C, 0x57, 0x68, 0x66, 0x32, 0x30, 0x02, 0x8D, 0x20, 0x8E, 0x11, 0xDE, 0x03,
   0x20, 0x18, 0x88, 0x51, 0xBD, 0xC4, 0xB7, 0x2D, 0xD3, 0xC2, 0x95, 0x4A, 0x34, 0x1B, 0xE3, 0x69,
   0xE9, 0x08, 0x9B, 0x4E, 0xB3, 0x85, 0x81, 0x69, 0x49, 0x4E]

/-- The key KEY of 95_test_vectors.md. -/
def key : Vector Byte 16 :=
  #v[0x9A, 0x25, 0x13, 0x9E, 0x32, 0x44, 0xCC, 0x2E, 0x39, 0x1A, 0x8E, 0xF6, 0xB9, 0x15, 0xB6, 0x97]

/-- The plaintext PT_E2E of 95_test_vectors.md. -/
def ptE2e : Bytes :=
  [0x4D, 0x80, 0x79, 0x13, 0x8C, 0xD3, 0x46, 0xD7, 0x00, 0x00, 0x00, 0x00, 0x00, 0x00, 0x00, 0x03,
   0x00, 0x00, 0x00, 0x00, 0x00, 0x00, 0x00]

/-- Two bytes and the source's compact payload S86 (V-EXT-1). -/
def compactFrame : Bytes :=
  [0x00, 0x00, 0x79, 0x13, 0x8C, 0x44, 0x91, 0xCE, 0x00, 0x00, 0x00, 0x00, 0x00, 0x00, 0x00, 0x03,
   0x00, 0x00, 0x00, 0x00, 0x00, 0x00, 0x00]

/-- Two bytes and the source's full payload S87 (V-EXT-2). -/
def fullFrame : Bytes :=
  [0x00, 0x00, 0x78, 0x04, 0x04, 0xD7, 0x00, 0x00, 0x00, 0x04, 0x84, 0x3C, 0x00, 0x00, 0x00, 0x00,
   0x04, 0x2B, 0x03, 0x00, 0x00, 0x00, 0x04, 0xAB, 0x3C, 0x00, 0x00, 0x00, 0x00]

/-- The header of E2E, then AA F7 00 00: PAY_LEN 2, plaintext FF FF (V-DEC-11). -/
def shortest : Bytes :=
  e2e.take 17 ++ [0xAA, 0xF7, 0x00, 0x00]

/-! ### One step of each command, on vectors of 95_test_vectors.md -/

/-- Section 1, P4: NOP after a NO_DATA(1) leaves FMT and DSRC and clears RESULT and DETAIL. -/
theorem test_nop : gives (exec .nop { State.reset with
    fmt := .full, dsrc := .frame, result := 4, detail := 1, lastOp := 0x05, errflags := 0x10 })
    (fun t => statusErrPcrc t == (0x00000018, 0x00000010, 0)) = true := by decide +kernel

/-- V-HEX-1: mixed case. -/
theorem test_hexdec : gives (exec .hexdec (withText [0x30, 0x41, 0x31, 0x62]))
    (fun t => statusWord t == 0x00010000 && t.frameLen == 2 && byteAt t 0x600 == 0x0A && byteAt t 0x601 == 0x1B) =
    true := by decide +kernel

/-- V-HEX-6: odd and not a digit, the odd length is reported. -/
theorem test_hexdec_odd_first : gives (exec .hexdec (withText [0x67]))
    (fun t => statusErrPcrc t == (0x00011100, 0x00000002, 0)) = true := by decide +kernel

/-- V-PAR-1 and V-SRC-8: E2E. -/
theorem test_parse : gives (exec .parse (withFrame e2e))
    (fun t => statusWord t == 0x00020001 && t.hdr.payLen == 23 && t.hdr.trailer == 0x4E49 && t.hdr.hdrA == 0x32666857 &&
      readReg .iv0 t == 0x68572C2D && readReg .iv3 t == 0x00000020) = true := by decide +kernel

/-- V-PAR-2: 18 bytes. -/
theorem test_parse_short : gives (exec .parse (withFrame (e2e.take 18)))
    (fun t => statusErrPcrc t == (0x00024100, 0x00000002, 0)) = true := by decide +kernel

/-- V-DEC-8: E2E under KEY. -/
theorem test_decrypt : gives (exec .decrypt (withKey key (afterParse (withFrame e2e))))
    (fun t => statusErrPcrc t == (0x00030003, 0, 0x804D804D) && plainText t == ptE2e) = true := by decide +kernel

/-- V-DEC-7: E2E under 16 zero bytes. -/
theorem test_decrypt_wrong_key : gives (exec .decrypt (withKey (Vector.replicate 16 0) (afterParse (withFrame e2e))))
    (fun t => statusErrPcrc t == (0x00031301, 0x00000008, 0x382D58C8) && t.ptLen == 0) = true := by decide +kernel

/-- After V-DEC-8: the tuple (215, 0, 3, 0). -/
theorem test_extract : gives (exec .extract (withPlain ptE2e (afterParse (withFrame e2e))))
    (fun t => statusWord t == 0x00040007 && tuple t == (0xD7, 0, 3, 0, 0xF)) = true := by decide +kernel

/-- After reset. -/
theorem test_extract_sequence : gives (exec .extract State.reset)
    (fun t => statusErrPcrc t == (0x00042700, 0x00000080, 0)) = true := by decide +kernel

/-- V-EXT-1: a compact payload. -/
theorem test_extractDirect_compact : gives (exec .extractDirect (withFrame compactFrame))
    (fun t => statusWord t == 0x00050014 && tuple t == (0xCE, 0, 3, 0, 0xF)) = true := by decide +kernel

/-- V-EXT-2: a full payload. -/
theorem test_extractDirect_full : gives (exec .extractDirect (withFrame fullFrame))
    (fun t => statusWord t == 0x0005001C && tuple t == (0xD7, 0, 3, 0, 0xF)) = true := by decide +kernel

/-- The text 123456789 as bytes. -/
def digits : Bytes := [0x31, 0x32, 0x33, 0x34, 0x35, 0x36, 0x37, 0x38, 0x39]

/-- V-CRC-1. -/
theorem test_crcCcitt : gives (exec .crcCcitt { withFrame digits with crcLen := 9 })
    (fun t => statusWord t == 0x00080000 && t.crcResult == 0x906E) = true := by decide +kernel

/-- V-CRC-5: the window leaves the frame. -/
theorem test_crcCcitt_range : gives (exec .crcCcitt { withFrame digits with crcStart := 5, crcLen := 5 })
    (fun t => statusErrPcrc t == (0x00081800, 0x00000100, 0) && t.crcResult == 0) = true := by decide +kernel

/-- V-CRC-2. -/
theorem test_crcWmbus : gives (exec .crcWmbus { withFrame digits with crcLen := 9 })
    (fun t => statusWord t == 0x00090000 && t.crcResult == 0xC2B7) = true := by decide +kernel

/-- V-CRC-4: the empty window at the end. -/
theorem test_crcWmbus_empty : gives (exec .crcWmbus { withFrame digits with crcStart := 9 })
    (fun t => statusWord t == 0x00090000 && t.crcResult == 0xFFFF) = true := by decide +kernel

/-- V-CRC-12: the trailer is little-endian. -/
theorem test_checkTrailer : gives (exec .checkTrailer (withFrame ([0x7E] ++ digits ++ [0x6E, 0x90])))
    (fun t => statusWord t == 0x000A0000 && t.crcResult == 0x906E) = true := by decide +kernel

/-- V-CRC-13: a big-endian trailer fails. -/
theorem test_checkTrailer_big_endian : gives (exec .checkTrailer (withFrame ([0x7E] ++ digits ++ [0x90, 0x6E])))
    (fun t => statusErrPcrc t == (0x000A1500, 0x00000020, 0) && t.crcResult == 0x906E) = true := by decide +kernel

/-- V-CRC-8. -/
theorem test_checkPcrc : gives (exec .checkPcrc { withFrame ptE2e with crcLen := 23 })
    (fun t => statusErrPcrc t == (0x000B0000, 0, 0x804D804D) && t.crcResult == 0x804D) = true := by decide +kernel

/-- V-CRC-10. -/
theorem test_checkPcrc_mismatch : gives (exec .checkPcrc { withFrame [0x00, 0x00] with crcLen := 2 })
    (fun t => statusErrPcrc t == (0x000B1300, 0x00000008, 0x0000FFFF)) = true := by decide +kernel

/-- Section 1, P1: E2E as text. -/
theorem test_process : gives (exec .process (withKey key (withText (hexText e2e))))
    (fun t => statusErrPcrc t == (0x00100007, 0, 0x804D804D) && tuple t == (0xD7, 0, 3, 0, 0xF) && t.frameLen == 42) =
    true := by decide +kernel

/-- V-CTL-11: PROCESS_BIN of E2E. -/
theorem test_processBin : gives (exec .processBin (withKey key (withFrame e2e)))
    (fun t => statusErrPcrc t == (0x00110007, 0, 0x804D804D) && tuple t == (0xD7, 0, 3, 0, 0xF)) = true := by
  decide +kernel

/-- V-RST-12: PROCESS_BIN right after reset. -/
theorem test_processBin_after_reset : gives (exec .processBin State.reset)
    (fun t => statusErrPcrc t == (0x00114100, 0x00000002, 0)) = true := by decide +kernel

/-- V-CTL-11: CLEAR keeps FRAME_LEN, KEY_LEN and PT. -/
theorem test_clear : gives (exec .clear (withKey key (withPlain ptE2e (afterParse (withFrame e2e)))))
    (fun t => statusWord t == 0x001F0000 && t.hdr.hdrA == 0 && readReg .iv0 t == 0 && t.frameLen == 42 &&
      t.keyLen == 16 && byteAt t 0x700 == 0x4D) = true := by decide +kernel

/-! ### Witnesses: for each statement with hypotheses, a concrete state and operands that meet them together -/

/-- A Write of a word to an offset, queued after reset. -/
def writing (off : Offset) (w : Word) : State :=
  queued (.txn (.write off w))

/-- A Read of an offset, queued after reset. -/
def reading (off : Offset) : State :=
  queued (.txn (.read off))

theorem witness_DecodeOfEncodeIsTheCommand : instrWf .nop = true ∧ instrWf .clear = true := by decide

/-- Reserved bits at both ends of RSVD, and the first and last reserved opcodes. -/
theorem witness_IllegalCommandWordsChangeOnlyTheOutcome :
    ((writing 0x000 0x00000100).pending = [.txn (.write 0x000 0x00000100)] ∧
      (0x00000100 : Word).extractLsb' 8 24 ≠ 0) ∧
    ((writing 0x000 0x80000006).pending = [.txn (.write 0x000 0x80000006)] ∧
      (0x80000006 : Word).extractLsb' 8 24 ≠ 0) ∧
    ((writing 0x000 0x06).pending = [.txn (.write 0x000 0x06)] ∧ (0x06 : Word).extractLsb' 8 24 = 0 ∧
      ((0x06 : Word).extractLsb' 0 8).toNat ∈ reservedOpcodes) ∧
    ((writing 0x000 0xFF).pending = [.txn (.write 0x000 0xFF)] ∧ (0xFF : Word).extractLsb' 8 24 = 0 ∧
      ((0xFF : Word).extractLsb' 0 8).toNat ∈ reservedOpcodes) := by decide +kernel

theorem witness_StepRunsTheDecodedCommand :
    (writing 0x000 0x10).pending = [.txn (.write 0x000 0x10)] ∧ decode 0x10 = .ok .process := ⟨rfl, rfl⟩

theorem witness_EveryCommandWriteLatchesLastOp :
    ((writing 0x000 0x00).pending = [.txn (.write 0x000 0x00)] ∧ ∃ t, step (writing 0x000 0x00) = .next t) ∧
    ((writing 0x000 0xFFFFFFFF).pending = [.txn (.write 0x000 0xFFFFFFFF)] ∧
      ∃ t, step (writing 0x000 0xFFFFFFFF) = .next t) ∧
    (∃ t, exec .process State.reset = .next t) ∧ ∃ t, exec .processBin State.reset = .next t :=
  ⟨⟨rfl, _, rfl⟩, ⟨rfl, _, rfl⟩, ⟨_, rfl⟩, ⟨_, rfl⟩⟩

theorem witness_AnIdleBlockKeepsItsState : State.reset.pending = [] := rfl

theorem witness_ResetPutsEveryRegisterAtItsValue : (queued .reset).pending = [.reset] := rfl

theorem witness_MisalignedTransactionsChangeNoState :
    ((0x001 : Offset).extractLsb' 0 2 ≠ 0 ∧ (reading 0x001).pending = [.txn (.read 0x001)]) ∧
    ((0x003 : Offset).extractLsb' 0 2 ≠ 0 ∧ (writing 0x003 0x10).pending = [.txn (.write 0x003 0x10)]) ∧
    ((0xFFF : Offset).extractLsb' 0 2 ≠ 0 ∧ (reading 0xFFF).pending = [.txn (.read 0xFFF)]) := by decide

theorem witness_ReadsHaveNoSideEffect :
    ((0x000 : Offset).extractLsb' 0 2 = 0 ∧ (reading 0x000).pending = [.txn (.read 0x000)]) ∧
    ((0xFFC : Offset).extractLsb' 0 2 = 0 ∧ (reading 0xFFC).pending = [.txn (.read 0xFFC)]) ∧
    (pushEvent (.txn (.read 0x701)) (reading 0x701)).pending = [.txn (.read 0x701), .txn (.read 0x701)] := by decide

/-- Both ends of every unmapped range. -/
theorem witness_UnmappedOffsetsReadZeroAndIgnoreWrites :
    (unmappedOffset 0x028 ∧ unmappedOffset 0x02C ∧ unmappedOffset 0x07C ∧ unmappedOffset 0x0A8 ∧ unmappedOffset 0x3FC ∧
      unmappedOffset 0x800 ∧ unmappedOffset 0xFFC) ∧
    (reading 0x07C).pending = [.txn (.read 0x07C)] ∧ (writing 0xFFC 1).pending = [.txn (.write 0xFFC 1)] := by
  unfold unmappedOffset
  decide

/-- Both ends of every read-only range, and every write-only offset. -/
theorem witness_ReadOnlyAndWriteOnlyOffsets :
    (readOnlyOffset 0x004 ∧ readOnlyOffset 0x01C ∧ readOnlyOffset 0x024 ∧ readOnlyOffset 0x040 ∧ readOnlyOffset 0x078 ∧
      readOnlyOffset 0x080 ∧ readOnlyOffset 0x0A4 ∧ readOnlyOffset 0x700 ∧ readOnlyOffset 0x7FC) ∧
    (writeOnlyOffset 0x000 ∧ writeOnlyOffset 0x030 ∧ writeOnlyOffset 0x034 ∧ writeOnlyOffset 0x038 ∧
      writeOnlyOffset 0x03C) ∧
    (writing 0x700 1).pending = [.txn (.write 0x700 1)] ∧ (reading 0x000).pending = [.txn (.read 0x000)] := by
  unfold readOnlyOffset writeOnlyOffset
  and_intros <;> decide

theorem witness_RegistersReadZeroAboveTheirWidth :
    (0x000 : Offset).toNat = regOffset .cmd ∧ (0x0A4 : Offset).toNat = regOffset .valFound := by decide

theorem witness_OperandRegistersKeepTheirListedBits :
    (writing 0x00C 0xFFFFFFFF).pending = [.txn (.write 0x00C 0xFFFFFFFF)] ∧
    (writing 0x010 0xFFFFFFFF).pending = [.txn (.write 0x010 0xFFFFFFFF)] ∧
    (writing 0x014 0xFFFFFFFF).pending = [.txn (.write 0x014 0xFFFFFFFF)] ∧
    (writing 0x018 0xFFFFFFFF).pending = [.txn (.write 0x018 0xFFFFFFFF)] ∧
    (writing 0x020 0xFFFFFFFF).pending = [.txn (.write 0x020 0xFFFFFFFF)] ∧
    (pushEvent (.txn (.write 0x020 0x100)) (reading 0x020)).pending =
      [.txn (.write 0x020 0x100), .txn (.read 0x020)] := by decide

/-- The first and the last word of INBUF, of FRAME and of PT. -/
theorem witness_BufferWordsAreLittleEndian :
    ((0x400 : Offset).extractLsb' 0 2 = 0 ∧ (0x5FC : Offset).extractLsb' 0 2 = 0 ∧ (0x5FC : Offset).toNat < 0x600) ∧
    ((0x600 : Offset).extractLsb' 0 2 = 0 ∧ (0x6FC : Offset).extractLsb' 0 2 = 0 ∧ (0x6FC : Offset).toNat < 0x700) ∧
    ((0x700 : Offset).extractLsb' 0 2 = 0 ∧ (0x7FC : Offset).extractLsb' 0 2 = 0 ∧ (0x7FC : Offset).toNat < 0x800) ∧
    ((reading 0x400).pending = [.txn (.read 0x400)] ∧ (reading 0x7FC).pending = [.txn (.read 0x7FC)]) ∧
    ((writing 0x400 1).pending = [.txn (.write 0x400 1)] ∧ (writing 0x5FC 1).pending = [.txn (.write 0x5FC 1)] ∧
      (writing 0x600 1).pending = [.txn (.write 0x600 1)] ∧ (writing 0x6FC 1).pending = [.txn (.write 0x6FC 1)] ∧
      (writing 0x700 1).pending = [.txn (.write 0x700 1)] ∧ (writing 0x7FC 1).pending = [.txn (.write 0x7FC 1)]) ∧
    (pushEvent (.txn (.write 0x6FC 1)) (reading 0x6FC)).pending = [.txn (.write 0x6FC 1), .txn (.read 0x6FC)] := by
  decide

theorem witness_KeyIsWrittenByTheHostAlone :
    ((0x030 : Offset).toNat = 0x030 + 4 * (0 : Fin 4).val ∧ (writing 0x030 1).pending = [.txn (.write 0x030 1)]) ∧
    ((0x03C : Offset).toNat = 0x030 + 4 * (3 : Fin 4).val ∧ (writing 0x03C 1).pending = [.txn (.write 0x03C 1)]) ∧
    (reading 0x03C).pending = [.txn (.read 0x03C)] ∧ gives (exec .decrypt State.reset) (fun _ => true) = true ∧
    gives (step (writing 0x03C 1)) (fun t => t.key != (writing 0x03C 1).key) = true ∧
    gives (step { queued .reset with key := key }) (fun t => t.key != key) = true := by
  decide

/-- The first and the last listed register, and two neighbours of different values and widths. -/
theorem witness_RegisterReadsReturnTheirValues :
    (reading 0x00C).pending = [.txn (.read 0x00C)] ∧ (reading 0x0A4).pending = [.txn (.read 0x0A4)] ∧
    gives (step { reading 0x01C with crcResult := 0xABCD, pcrc := 0x12345678 })
      (fun t => t.response == some (.readData 0x0000ABCD)) = true ∧
    gives (step { reading 0x024 with crcResult := 0xABCD, pcrc := 0x12345678 })
      (fun t => t.response == some (.readData 0x12345678)) = true := by decide

theorem witness_NoReadRevealsTheKey : (reading 0x030).pending = [.txn (.read 0x030)] := rfl

/-- A Read and a Write of ERRFLAGS, a command that fails, and a Write that clears bits 1 and 8. -/
theorem witness_ErrflagsAreStickyAndWriteOneToClear :
    (reading 0x008).pending = [.txn (.read 0x008)] ∧ (writing 0x008 0x1FE).pending = [.txn (.write 0x008 0x1FE)] ∧
    gives (exec .parse State.reset) (fun t => t.result == 1) = true ∧
    (({ writing 0x008 0x102 with errflags := 0x1FE }).errflags.getLsbD 1 = true ∧
      gives (step { writing 0x008 0x102 with errflags := 0x1FE })
        (fun t => !t.errflags.getLsbD 1 && !t.errflags.getLsbD 8 && t.errflags.getLsbD 7) = true) := by decide +kernel

theorem witness_StatusHasItsLayout :
    (reading 0x004).pending = [.txn (.read 0x004)] ∧ (writing 0x004 7).pending = [.txn (.write 0x004 7)] := by decide

/-- One odd text, one with a character next to each end of a digit range, one of the ends of the ranges themselves. -/
theorem witness_HexDecodeReadsDigitPairs :
    ([0x30] : Bytes).length % 2 = 1 ∧
    (([0x2F, 0x3A, 0x40, 0x47, 0x60, 0x67] : Bytes).length % 2 = 0 ∧
      ∃ c ∈ ([0x2F, 0x3A, 0x40, 0x47, 0x60, 0x67] : Bytes), ¬ isHexDigit c) ∧
    (([0x30, 0x39, 0x41, 0x46, 0x61, 0x66] : Bytes).length % 2 = 0 ∧
      ∀ c ∈ ([0x30, 0x39, 0x41, 0x46, 0x61, 0x66] : Bytes), isHexDigit c) := by
  unfold isHexDigit
  decide

/-- The empty text, and a text of one byte. -/
theorem witness_HexdecStoresTheDecodedBytes :
    ((withText []).inLen.toNat ≤ 512 ∧ hexDecode (inText (withText [])) = .ok []) ∧
    ((withText [0x30, 0x41]).inLen.toNat ≤ 512 ∧ hexDecode (inText (withText [0x30, 0x41])) = .ok [0x0A]) :=
  ⟨⟨by decide, rfl⟩, by decide, rfl⟩

theorem witness_ParseErrorsClearOnlyTheValidFlags :
    512 < ({ State.reset with inLen := 513 }).inLen.toNat ∧
    ((withText [0x30]).inLen.toNat ≤ 512 ∧ hexDecode (inText (withText [0x30])) = .error 1) ∧
    ((withText [0x30, 0x67]).inLen.toNat ≤ 512 ∧ hexDecode (inText (withText [0x30, 0x67])) = .error 2) ∧
    256 < ({ State.reset with frameLen := 257 }).frameLen.toNat ∧
    ({ State.reset with frameLen := 18 }).frameLen.toNat < 19 :=
  ⟨by decide, ⟨by decide, rfl⟩, ⟨by decide, rfl⟩, by decide, by decide⟩

theorem witness_ParseWritesEveryHeaderRegister :
    (19 ≤ ({ State.reset with frameLen := 19 }).frameLen.toNat ∧
      ({ State.reset with frameLen := 19 }).frameLen.toNat ≤ 256) ∧
    (19 ≤ ({ State.reset with frameLen := 256 }).frameLen.toNat ∧
      ({ State.reset with frameLen := 256 }).frameLen.toNat ≤ 256) := by decide

theorem witness_SboxIsTheAffineMapOfTheInverse : (0x01 : Byte) ≠ 0 ∧ (0xFF : Byte) ≠ 0 := by decide

/-- The last byte of block 0 and the first of block 1 of a 17-byte string. -/
theorem witness_CtrCryptXorsTheKeystream :
    (List.replicate 16 0x5A : Bytes).length = 16 ∧ (List.replicate 14 0xA5 : Bytes).length = 14 ∧
    (15 < 16 ∧ 16 * 0 + 15 < (List.replicate 17 0x00 : Bytes).length) ∧
    (0 < 16 ∧ 16 * 1 + 0 < (List.replicate 17 0x00 : Bytes).length) := by decide

theorem witness_CtrCryptIsItsOwnInverse : (List.replicate 16 0x5A : Bytes).length = 16 := by decide

/-- The plaintext DECRYPT computes for a parsed frame. -/
def decrypted (s : State) : Bytes :=
  ctrCrypt (keyString s) (ivPrefix s) (cipherText s)

/-- A parsed frame under KEY. -/
def ready (f : Bytes) : State :=
  withKey key (afterParse (withFrame f))

/-- The smallest payload DECRYPT takes. -/
theorem witness_DecryptPublishesAMatchingPlaintext :
    (ready shortest).hdrValid = true ∧ (ready shortest).keyLen.toNat = 16 ∧ (ready shortest).ptValid = false ∧
    2 ≤ (ready shortest).hdr.payLen.toNat ∧ (ready shortest).hdr.payLen.toNat ≤ 237 ∧
    wmbus16 ((decrypted (ready shortest)).drop 2) =
      byteOf (decrypted (ready shortest)) 1 ++ byteOf (decrypted (ready shortest)) 0 := by decide +kernel

/-- The smallest frame with its last payload byte changed. -/
def tampered : Bytes :=
  shortest.set 18 0xF6

theorem witness_DecryptFailuresPublishNothing :
    State.reset.hdrValid = false ∧
    ((afterParse (withFrame e2e)).hdrValid = true ∧ (afterParse (withFrame e2e)).keyLen = 0) ∧
    (({ ready e2e with keyLen := 15 }).hdrValid = true ∧ ({ ready e2e with keyLen := 15 }).keyLen ≠ 0 ∧
      ({ ready e2e with keyLen := 15 }).keyLen ≠ 16) ∧
    (({ ready e2e with keyLen := 17 }).hdrValid = true ∧ ({ ready e2e with keyLen := 17 }).keyLen ≠ 0 ∧
      ({ ready e2e with keyLen := 17 }).keyLen ≠ 16) ∧
    ((ready (e2e.take 20)).hdrValid = true ∧ (ready (e2e.take 20)).keyLen = 16 ∧
      (ready (e2e.take 20)).ptValid = false ∧ (ready (e2e.take 20)).hdr.payLen.toNat < 2) ∧
    ((ready tampered).hdrValid = true ∧ (ready tampered).keyLen = 16 ∧ (ready tampered).ptValid = false ∧
      2 ≤ (ready tampered).hdr.payLen.toNat ∧ (ready tampered).hdr.payLen.toNat ≤ 237 ∧
      wmbus16 ((decrypted (ready tampered)).drop 2) ≠
        byteOf (decrypted (ready tampered)) 1 ++ byteOf (decrypted (ready tampered)) 0) := by decide +kernel

theorem witness_DecryptOfADecryptedFrameIsANoOp :
    (withPlain ptE2e (ready e2e)).hdrValid = true ∧ (withPlain ptE2e (ready e2e)).keyLen = 16 ∧
      (withPlain ptE2e (ready e2e)).ptValid = true := by decide +kernel

/-- The first lengths past the buffers. -/
theorem witness_ImpossibleLengthsFault :
    (({ ready e2e with hdr := { headerZero with payLen := 240 } }).hdrValid = true ∧
      ({ ready e2e with hdr := { headerZero with payLen := 240 } }).keyLen = 16 ∧
      ({ ready e2e with hdr := { headerZero with payLen := 240 } }).ptValid = false ∧
      239 < ({ ready e2e with hdr := { headerZero with payLen := 240 } }).hdr.payLen.toNat) ∧
    (({ State.reset with ptValid := true, ptLen := 257 }).ptValid = true ∧
      256 < ({ State.reset with ptValid := true, ptLen := 257 }).ptLen.toNat) := by decide +kernel

/-- A match at the first index, with its value at the end of the payload; and a payload one byte too short for one. -/
theorem witness_ScanFieldTakesTheFirstMatch :
    (3 ≤ 3 ∧ 3 + ([0x04, 0x04] : Bytes).length + 4 ≤ ([0, 0, 0x78, 0x04, 0x04, 1, 2, 3, 4] : Bytes).length ∧
      slice [0, 0, 0x78, 0x04, 0x04, 1, 2, 3, 4] 3 (3 + ([0x04, 0x04] : Bytes).length) = [0x04, 0x04] ∧
      ∀ k, 3 ≤ k → k < 3 → slice [0, 0, 0x78, 0x04, 0x04, 1, 2, 3, 4] k (k + ([0x04, 0x04] : Bytes).length) ≠ [4, 4]) ∧
    (∀ i, 3 ≤ i → i + ([0x04, 0x04] : Bytes).length + 4 ≤ ([0, 0, 0x78, 0x04, 0x04, 1, 2, 3] : Bytes).length →
      slice [0, 0, 0x78, 0x04, 0x04, 1, 2, 3] i (i + ([0x04, 0x04] : Bytes).length) ≠ [0x04, 0x04]) := by
  refine ⟨⟨by decide, by decide, by decide, fun k h1 h2 => by omega⟩, fun i h1 h2 => ?_⟩
  simp only [List.length_cons, List.length_nil] at h2
  omega

/-- Lengths 2, 3, 22 and 23 with each kind of CI byte. -/
theorem witness_ExtractReadsBothPayloadShapes :
    ([0, 0] : Bytes).length < 3 ∧
    (3 ≤ ([0, 0, 0x7A] : Bytes).length ∧ byteOf [0, 0, 0x7A] 2 ≠ 0x79 ∧ byteOf [0, 0, 0x7A] 2 ≠ 0x78) ∧
    (3 ≤ (compactFrame.take 22).length ∧ (compactFrame.take 22).length < 23 ∧
      byteOf (compactFrame.take 22) 2 = 0x79) ∧
    (23 ≤ compactFrame.length ∧ byteOf compactFrame 2 = 0x79) ∧
    (3 ≤ ([0, 0, 0x78] : Bytes).length ∧ byteOf [0, 0, 0x78] 2 = 0x78) := by decide

/-- A validated plaintext of E2E, one without a CI byte, and none. -/
theorem witness_ExtractWritesTheTupleOfThePlaintext :
    ((withPlain ptE2e State.reset).ptValid = true ∧ (withPlain ptE2e State.reset).ptLen.toNat ≤ 256 ∧
      extractFields (plainText (withPlain ptE2e State.reset)) =
        .ok { v0 := 0xD7, v1 := 0, v2 := 3, v3 := 0, found := 0xF, format := .compact }) ∧
    ((withPlain [0xFF, 0xFF] State.reset).ptValid = true ∧ (withPlain [0xFF, 0xFF] State.reset).ptLen.toNat ≤ 256 ∧
      extractFields (plainText (withPlain [0xFF, 0xFF] State.reset)) = .error 2) ∧
    State.reset.ptValid = false :=
  ⟨⟨rfl, by decide, rfl⟩, ⟨rfl, by decide, rfl⟩, rfl⟩

theorem witness_ExtractDirectWritesTheTupleOfTheFrame :
    ((withFrame compactFrame).frameLen.toNat ≤ 256 ∧ extractFields (frameString (withFrame compactFrame)) =
      .ok { v0 := 0xCE, v1 := 0, v2 := 3, v3 := 0, found := 0xF, format := .compact }) ∧
    (State.reset.frameLen.toNat ≤ 256 ∧ extractFields (frameString State.reset) = .error 2) ∧
    256 < ({ State.reset with frameLen := 257 }).frameLen.toNat :=
  ⟨⟨by decide, rfl⟩, ⟨by decide, rfl⟩, by decide⟩

/-- The whole of a full frame, and the empty window at its end. -/
theorem witness_CrcCommandsWriteTheWindowCrc :
    (({ State.reset with frameLen := 256, crcLen := 256 }).frameLen.toNat ≤ 256 ∧
      ({ State.reset with frameLen := 256, crcLen := 256 }).crcStart.toNat +
        ({ State.reset with frameLen := 256, crcLen := 256 }).crcLen.toNat ≤
          ({ State.reset with frameLen := 256, crcLen := 256 }).frameLen.toNat) ∧
    (({ State.reset with frameLen := 9, crcStart := 9 }).frameLen.toNat ≤ 256 ∧
      ({ State.reset with frameLen := 9, crcStart := 9 }).crcStart.toNat +
        ({ State.reset with frameLen := 9, crcStart := 9 }).crcLen.toNat ≤
          ({ State.reset with frameLen := 9, crcStart := 9 }).frameLen.toNat) := by decide

theorem witness_CrcWindowOutsideTheFrameIsRefused :
    (Instr.crcCcitt ∈ [Instr.crcCcitt, Instr.crcWmbus, Instr.checkPcrc] ∧
      Instr.checkPcrc ∈ [Instr.crcCcitt, Instr.crcWmbus, Instr.checkPcrc]) ∧
    256 < ({ State.reset with frameLen := 257 }).frameLen.toNat ∧
    (({ State.reset with frameLen := 9, crcStart := 5, crcLen := 5 }).frameLen.toNat ≤ 256 ∧
      ({ State.reset with frameLen := 9, crcStart := 5, crcLen := 5 }).frameLen.toNat <
        ({ State.reset with frameLen := 9, crcStart := 5, crcLen := 5 }).crcStart.toNat +
          ({ State.reset with frameLen := 9, crcStart := 5, crcLen := 5 }).crcLen.toNat) := by decide

/-- The smallest raw frame, V-CRC-14, the same with a wrong trailer, and the lengths on both sides of 3 to 256. -/
theorem witness_CheckTrailerComparesTheLastTwoBytes :
    (3 ≤ (withFrame [0x7E, 0x00, 0x00]).frameLen.toNat ∧ (withFrame [0x7E, 0x00, 0x00]).frameLen.toNat ≤ 256 ∧
      byteAt (withFrame [0x7E, 0x00, 0x00]) 0x601 = (ccitt16 []).extractLsb' 0 8 ∧
      byteAt (withFrame [0x7E, 0x00, 0x00]) 0x602 = (ccitt16 []).extractLsb' 8 8) ∧
    (3 ≤ (withFrame [0x7E, 0x00, 0x01]).frameLen.toNat ∧ (withFrame [0x7E, 0x00, 0x01]).frameLen.toNat ≤ 256 ∧
      ¬ (byteAt (withFrame [0x7E, 0x00, 0x01]) 0x601 = (ccitt16 []).extractLsb' 0 8 ∧
        byteAt (withFrame [0x7E, 0x00, 0x01]) 0x602 = (ccitt16 []).extractLsb' 8 8)) ∧
    256 < ({ State.reset with frameLen := 257 }).frameLen.toNat ∧
    ({ State.reset with frameLen := 2 }).frameLen.toNat < 3 := by decide +kernel

/-- V-CRC-9, V-CRC-10 and a window of one byte. -/
theorem witness_CheckPcrcValidatesTheWindow :
    (({ withFrame [0xFF, 0xFF] with crcLen := 2 }).frameLen.toNat ≤ 256 ∧
      ({ withFrame [0xFF, 0xFF] with crcLen := 2 }).crcStart.toNat + 2 ≤
        ({ withFrame [0xFF, 0xFF] with crcLen := 2 }).frameLen.toNat ∧
      2 ≤ ({ withFrame [0xFF, 0xFF] with crcLen := 2 }).crcLen.toNat ∧
      windowString { withFrame [0xFF, 0xFF] with crcLen := 2 } = [0xFF, 0xFF] ∧
      wmbus16 (([0xFF, 0xFF] : Bytes).drop 2) = byteOf [0xFF, 0xFF] 1 ++ byteOf [0xFF, 0xFF] 0) ∧
    (2 ≤ ({ withFrame [0x00, 0x00] with crcLen := 2 }).crcLen.toNat ∧
      windowString { withFrame [0x00, 0x00] with crcLen := 2 } = [0x00, 0x00] ∧
      wmbus16 (([0x00, 0x00] : Bytes).drop 2) ≠ byteOf [0x00, 0x00] 1 ++ byteOf [0x00, 0x00] 0) ∧
    (({ withFrame [0x00] with crcLen := 1 }).crcStart.toNat + 1 ≤
        ({ withFrame [0x00] with crcLen := 1 }).frameLen.toNat ∧
      ({ withFrame [0x00] with crcLen := 1 }).crcLen.toNat < 2) := by decide +kernel

/-- The last byte of the smallest payload, and a byte of E2E's plaintext. -/
theorem witness_AnyChangedByteBreaksThePayloadCrc :
    (2 ≤ ([0xFF, 0xFF] : Bytes).length ∧ 1 < ([0xFF, 0xFF] : Bytes).length ∧ (0x7F : Byte) ≠ byteOf [0xFF, 0xFF] 1 ∧
      payloadCrcOk [0xFF, 0xFF] = true) ∧
    (2 ≤ ptE2e.length ∧ 22 < ptE2e.length ∧ (0x01 : Byte) ≠ byteOf ptE2e 22 ∧ payloadCrcOk ptE2e = true) := by
  decide +kernel

/-- E2E as text, under KEY. -/
theorem witness_ProcessDecodesATelegram :
    (withKey key (withText (hexText e2e))).inLen.toNat ≤ 512 ∧
    hexDecode (inText (withKey key (withText (hexText e2e)))) = .ok e2e ∧ 21 ≤ e2e.length ∧
    (withKey key (withText (hexText e2e))).keyLen = 16 ∧
    ctrCrypt (keyString (withKey key (withText (hexText e2e)))) ((deriveIV e2e).toList.take 14)
      (slice e2e 17 (e2e.length - 2)) = ptE2e ∧
    payloadCrcOk ptE2e = true ∧
    extractFields ptE2e = .ok { v0 := 0xD7, v1 := 0, v2 := 3, v3 := 0, found := 0xF, format := .compact } :=
  ⟨by decide +kernel, by decide +kernel, by decide +kernel, by decide +kernel, by decide +kernel, by decide +kernel, rfl⟩

/-- E2E in FRAME, under KEY. -/
theorem witness_ProcessBinDecodesATelegram :
    frameString (withKey key (withFrame e2e)) = e2e ∧ 21 ≤ (withKey key (withFrame e2e)).frameLen.toNat ∧
    (withKey key (withFrame e2e)).frameLen.toNat ≤ 256 ∧ (withKey key (withFrame e2e)).keyLen = 16 ∧
    ctrCrypt (keyString (withKey key (withFrame e2e))) ((deriveIV e2e).toList.take 14)
      (slice e2e 17 (e2e.length - 2)) = ptE2e ∧
    payloadCrcOk ptE2e = true ∧
    extractFields ptE2e = .ok { v0 := 0xD7, v1 := 0, v2 := 3, v3 := 0, found := 0xF, format := .compact } :=
  ⟨by decide +kernel, by decide +kernel, by decide +kernel, by decide +kernel, by decide +kernel, by decide +kernel, rfl⟩

/-- E2E under KEY with its last payload byte, at index 39, written again with another value (V-DEC-4). -/
theorem witness_ATamperedTelegramIsRefused :
    ∃ s s' t : State, exec .processBin s = .next t ∧ t.ptValid = true ∧ s' = { s with mem := s'.mem } ∧ 17 ≤ 39 ∧
      39 + 2 < s.frameLen.toNat ∧ byteAt s' (0x600 + 39) ≠ byteAt s (0x600 + 39) ∧
      ∀ a, a ≠ 0x600 + 39 → byteAt s' a = byteAt s a := by
  have hg : gives (exec .processBin (withKey key (withFrame e2e))) (fun t => t.ptValid) = true := by decide +kernel
  cases h : exec .processBin (withKey key (withFrame e2e)) with
  | next t =>
    rw [h] at hg
    refine ⟨withKey key (withFrame e2e),
      { withKey key (withFrame e2e) with mem := Memory.set (withFrame e2e).mem 0x627 0x68 }, t, h, hg, rfl, by decide,
      by decide +kernel, by decide +kernel, fun a ha => ?_⟩
    simp only [byteAt, withKey, get?_set_ne _ _ ha]
  | fault f =>
    rw [h] at hg
    simp [gives] at hg
  | refused r =>
    rw [h] at hg
    simp [gives] at hg

/-- E2E as text under KEY, right after reset and after another telegram's results. -/
theorem witness_ProcessForgetsEarlierTelegrams :
    ∃ s s' : State, s'.val0 ≠ s.val0 ∧ s'.inLen = s.inLen ∧ inText s' = inText s ∧ s'.key = s.key ∧
      s'.keyLen = s.keyLen :=
  ⟨withKey key (withText (hexText e2e)), { withKey key (withText (hexText e2e)) with val0 := 206, hdrValid := true },
    by decide, rfl, rfl, rfl, rfl⟩

/-- A command that answers a next state: the hypothesis of every statement about what commands do not do. -/
theorem witness_commands_answer :
    (∃ t, exec .hexdec State.reset = .next t) ∧ (∃ t, exec .parse State.reset = .next t) ∧
    (∃ t, exec .decrypt State.reset = .next t) ∧ (∃ t, exec .extract State.reset = .next t) ∧
    (∃ t, exec .extractDirect State.reset = .next t) ∧ (∃ t, exec .clear State.reset = .next t) ∧
    (∃ t, exec .nop State.reset = .next t) ∧ (∃ t, exec .crcCcitt State.reset = .next t) :=
  ⟨⟨_, rfl⟩, ⟨_, rfl⟩, ⟨_, rfl⟩, ⟨_, rfl⟩, ⟨_, rfl⟩, ⟨_, rfl⟩, ⟨_, rfl⟩, ⟨_, rfl⟩⟩

theorem witness_CommandsRecordALegalOutcome : ∃ t, exec .decrypt State.reset = .next t := ⟨_, rfl⟩

theorem witness_CommandsKeepTheHostOperands :
    ∃ t, exec .nop State.reset = .next t ∧ Instr.nop ≠ .hexdec ∧ Instr.nop ≠ .process :=
  ⟨_, rfl, by decide, by decide⟩

/-- The first offset past the bytes HEXDEC stores for a text of two digits, and one below FRAME. -/
theorem witness_CommandsStoreOnlyTheirBufferBytes :
    ∃ t, exec .hexdec (withText [0x30, 0x41]) = .next t ∧
      ¬ ((Instr.hexdec = .hexdec ∨ Instr.hexdec = .process) ∧ 0x600 ≤ 0x601 ∧
        0x601 < 0x600 + (withText [0x30, 0x41]).inLen.toNat / 2) ∧
      ¬ ((Instr.hexdec = .decrypt ∨ Instr.hexdec = .process ∨ Instr.hexdec = .processBin) ∧ 0x700 ≤ 0x601 ∧
        0x601 < 0x700 + t.hdr.payLen.toNat) :=
  ⟨_, rfl, by decide, by decide⟩

theorem witness_CommandsWriteOnlyTheirResultRegisters :
    ∃ t, exec .nop State.reset = .next t ∧ Instr.nop ∉ [Instr.crcCcitt, .crcWmbus, .checkTrailer, .checkPcrc, .clear] ∧
      Instr.nop ∉ [Instr.decrypt, .checkPcrc, .process, .processBin, .clear] ∧
      Instr.nop ∉ [Instr.parse, .process, .processBin, .clear] ∧
      Instr.nop ∉ [Instr.decrypt, .process, .processBin, .clear] ∧
      Instr.nop ∉ [Instr.extract, .extractDirect, .process, .processBin, .clear] :=
  ⟨_, rfl, by decide, by decide, by decide, by decide, by decide⟩

/-- Each single command with the results its clause speaks of: PARSE ends OK on a frame of 19 bytes, EXTRACT_DIRECT ends
NO_DATA on the empty frame and RANGE_ERROR on one too long. -/
theorem witness_CommandsMoveTheValidFlagsAsTheTableSays :
    gives (exec .parse (withFrame (e2e.take 19))) (fun t => t.result == 0) = true ∧
    gives (exec .decrypt (ready shortest)) (fun t => t.result == 0) = true ∧
    gives (exec .decrypt State.reset) (fun t => t.result != 0) = true ∧
    gives (exec .extractDirect (withFrame compactFrame)) (fun t => t.result == 0) = true ∧
    gives (exec .extractDirect State.reset) (fun t => t.result == 4) = true ∧
    gives (exec .extractDirect { State.reset with frameLen := 257 }) (fun t => t.result == 8) = true ∧
    Instr.checkPcrc ∈ [Instr.nop, .crcCcitt, .crcWmbus, .checkTrailer, .checkPcrc] := by decide +kernel

/-- DECRYPT sets PT_VALID, EXTRACT_DIRECT sets DATA_VALID. -/
theorem witness_OnlyCommandsSetPtValidAndDataValid :
    (ready shortest).ptValid = false ∧
    gives (step (pushCommandWord 0x03 (ready shortest))) (fun t => t.ptValid) = true ∧
    (withFrame compactFrame).dataValid = false ∧
    gives (step (pushCommandWord 0x05 (withFrame compactFrame))) (fun t => t.dataValid) = true := by decide +kernel

theorem witness_CommandsRightAfterReset :
    (Instr.crcWmbus, (0 : BitVec 4), (0 : BitVec 4), (0xFFFF : Half)) ∈
      [(Instr.nop, (0 : BitVec 4), (0 : BitVec 4), (0x0000 : Half)), (.clear, 0, 0, 0x0000),
        (.hexdec, 0, 0, 0x0000), (.parse, 1, 4, 0x0000), (.decrypt, 7, 1, 0x0000), (.extract, 7, 2, 0x0000),
        (.extractDirect, 4, 2, 0x0000), (.crcCcitt, 0, 0, 0x0000), (.crcWmbus, 0, 0, 0xFFFF),
        (.checkTrailer, 8, 3, 0x0000), (.checkPcrc, 8, 3, 0x0000), (.process, 1, 4, 0x0000),
        (.processBin, 1, 4, 0x0000)] := by decide

/-- A state that meets the invariant with every valid flag set (E2E, parsed, decrypted and extracted under KEY), and a
step from it. -/
def settled : State :=
  storeExtraction { v0 := 0xD7, v1 := 0, v2 := 3, v3 := 0, found := 0xF, format := .compact } .pt
    (withPlain ptE2e (ready e2e))

theorem witness_EveryStepKeepsTheInvariant : BlockInvariant settled ∧ ∃ t, step settled = .next t := by
  have hp : settled.mem.Pairwise (fun c d => c.1 < d.1) := by decide +kernel
  have hm : ∀ c ∈ settled.mem, memBase ≤ c.1 ∧ c.1 < memEnd := by decide +kernel
  refine ⟨⟨⟨hp, hm⟩, ⟨(.ok, 0), by decide, rfl, rfl⟩, ?_, ?_, ⟨rfl, rfl, rfl⟩, ⟨rfl, rfl, rfl⟩, fun _ => ?_, fun _ => ?_,
    fun _ => ?_⟩, _, rfl⟩
  · unfold errflagsOk
    decide +kernel
  · unfold lengthsOk
    decide +kernel
  · exact ⟨by decide +kernel, by decide +kernel, by decide +kernel, by decide +kernel⟩
  · exact ⟨rfl, by decide +kernel, by decide +kernel, by decide +kernel, key.toList, rfl, by decide +kernel⟩
  · exact ⟨rfl, by decide +kernel⟩

theorem witness_NoStepStopsUnderTheInvariant : BlockInvariant settled :=
  witness_EveryStepKeepsTheInvariant.1

/-! ### The host's text files (30_encoding.md R109, R110) -/

/-- LOADKEY writes KEY0 to KEY3 little-endian and KEY_LEN = 16. -/
theorem test_loadKey : gives (Sys2Proof.core.run 5 (queueProgram [.loadKey key.toList] State.reset))
    (fun t => t.key == key && t.keyLen == 16) = true := by decide +kernel

end Sys2Proof.Tests
end

section
/-!
SUPPORT. What a transaction to a register does in one step, what a command leaves in LAST_OP, KEY and ERRFLAGS, and
the three statements about these registers (spec/10_state.md R27, R36, R37).
-/

namespace Sys2Proof.Machine

open Sys2Proof.Safety

variable {s t : State} {off : Offset} {w : Word} {rest : List Event} {n : RegName} {i : Instr}

/-! ### The address map, one register at a time -/

theorem aligned_iff_toNat : aligned off = true ↔ off.toNat % 4 = 0 := by
  rw [aligned_iff, ← BitVec.toNat_inj]
  simp [BitVec.extractLsb'_toNat]

theorem regAt_eq_some {a : Nat} : regAt a = some n ↔ a = regOffset n := by
  constructor
  · intro h
    unfold regAt at h
    split at h <;> cases h <;> rfl
  · rintro rfl
    cases n <;> rfl

/-- The registers lie below the buffers, at multiples of 4 (20_memory.md R63). -/
theorem regOffset_bound (n : RegName) : regOffset n < 0x400 ∧ regOffset n % 4 = 0 := by
  cases n <;> decide

/-- An offset selects a register exactly where the address map lists it (20_memory.md R63). -/
theorem locate_eq_reg : locate off = .reg n ↔ off.toNat = regOffset n := by
  have hlow := (regOffset_bound n).1
  rw [← regAt_eq_some]
  constructor
  · intro h
    unfold locate at h
    dsimp only at h
    split_ifs at h
    split at h
    next hr => cases h; exact hr
    next => cases h
  · intro h
    have ha := regAt_eq_some.1 h
    unfold locate
    dsimp only
    rw [if_neg (by omega), if_neg (by omega), if_neg (by omega), h]

theorem aligned_of_regOffset (h : off.toNat = regOffset n) : aligned off = true :=
  aligned_iff_toNat.2 (h ▸ (regOffset_bound n).2)

/-! ### One transaction to a register -/

theorem readReg_pending (n : RegName) (s : State) (l : List Event) : readReg n { s with pending := l } = readReg n s := by
  cases n <;> rfl

/-- A Read of a register answers its value and changes nothing (20_memory.md R60). -/
theorem step_readReg (hp : s.pending = .txn (.read off) :: rest) (ho : off.toNat = regOffset n) :
    step s = .next (served rest (.readData (readReg n s)) s) := by
  rw [step_event hp]
  simp only [serveEvent, serveTxn, aligned_of_regOffset ho, if_true, locate_eq_reg.2 ho, readTarget, readReg_pending]
  rfl

/-- A Write to a register other than CMD is a `writeReg` (20_memory.md R63, R65). -/
theorem step_writeReg (hp : s.pending = .txn (.write off w) :: rest) (ho : off.toNat = regOffset n) (hn : n ≠ .cmd) :
    step s = .next (writeReg n w (served rest .writeDone s)) := by
  rw [step_event hp]
  simp only [serveEvent, serveTxn, aligned_of_regOffset ho, if_true, locate_eq_reg.2 ho]
  exact if_neg fun h => hn (by injection h)

/-- A Write to CMD runs the command its word selects, or records that it selects none (44_control.md R259). -/
theorem step_writeCmd (hp : s.pending = .txn (.write 0x000 w) :: rest) :
    step s = commandWrite w (served rest .writeDone s) := by
  rw [step_event hp]
  rfl

/-! ### One command, one step -/

/-- All that every command has in common: its body keeps what `Kept` lists, and then its outcome is recorded. -/
theorem exec_kept (h : exec i s = .next t) : ∃ u o d, Kept (latchOp (opcodeOf i) s) u ∧ t = recordOutcome o d u := by
  obtain ⟨u, o, d, hu, ht⟩ := exec_next.1 h
  exact ⟨u, o, d, kept_body hu, ht⟩

theorem exec_key (h : exec i s = .next t) : t.key = s.key := by
  obtain ⟨u, o, d, hk, rfl⟩ := exec_kept h
  simp [hk.key]

/-- A command ORs the flag of the outcome it records into ERRFLAGS (60_exceptions.md R283). -/
theorem exec_errflags_or (h : exec i s = .next t) :
    ∃ o, t.result = outcomeCode o ∧ t.errflags = s.errflags ||| outcomeFlag o := by
  obtain ⟨u, o, d, hk, rfl⟩ := exec_kept h
  exact ⟨o, rfl, by simp [hk.errflags]⟩

/-- A step that does not reset keeps KEY and only adds error flags, unless it serves a Write that is no command. -/
theorem step_reset_or_kept_or_write (h : step s = .next t) :
    (∃ rest, s.pending = .reset :: rest) ∨
    (t.key = s.key ∧ ∃ m, t.errflags = s.errflags ||| m) ∨
    (∃ off w rest, s.pending = .txn (.write off w) :: rest ∧
      t = writeTarget (locate off) w (served rest .writeDone s)) := by
  rcases step_cases s with ⟨-, hs⟩ | ⟨rest, hp, -⟩ | ⟨e, rest, r, -, hs⟩ | ⟨w, i, rest, -, -, hs⟩ |
    ⟨w, e, rest, -, -, hs⟩ | ⟨off, w, rest, hp, -, hs⟩
  · cases hs.symm.trans h
    exact .inr (.inl ⟨rfl, 0, by simp⟩)
  · exact .inl ⟨rest, hp⟩
  · cases hs.symm.trans h
    exact .inr (.inl ⟨rfl, 0, by simp⟩)
  · have hk := exec_key (hs.symm.trans h)
    obtain ⟨o, -, ho⟩ := exec_errflags_or (hs.symm.trans h)
    exact .inr (.inl ⟨hk, _, ho⟩)
  · cases hs.symm.trans h
    exact .inr (.inl ⟨rfl, _, rfl⟩)
  · cases hs.symm.trans h
    exact .inr (.inr ⟨off, w, rest, hp, rfl⟩)

/-! ### LAST_OP -/

/-- The opcode map read forwards and backwards (30_encoding.md R91). -/
theorem decodeOpcode_eq_some {op : Byte} : decodeOpcode op = some i ↔ op = opcodeOf i := by
  constructor
  · intro h
    unfold decodeOpcode at h
    split at h <;> cases h <;> exact BitVec.eq_of_toNat_eq ‹_›
  · rintro rfl
    cases i <;> rfl

theorem opcodeOf_of_decode (h : decode w = .ok i) : opcodeOf i = w.extractLsb' 0 8 := by
  unfold decode decodeFields at h
  split_ifs at h
  split at h
  next j hj =>
    cases h
    exact (decodeOpcode_eq_some.1 hj).symm
  next => cases h

theorem exec_lastOp (h : exec i s = .next t) : t.lastOp = opcodeOf i := by
  obtain ⟨u, o, d, hk, rfl⟩ := exec_kept h
  simp [hk.lastOp]

theorem commandWrite_lastOp (h : commandWrite w s = .next t) : t.lastOp = w.extractLsb' 0 8 := by
  unfold commandWrite at h
  split at h
  next i hd => rw [exec_lastOp h, opcodeOf_of_decode hd]
  next e _ =>
    cases h
    exact illegalCommand_lastOp s w e

theorem statusWord_lastOp (s : State) : (statusWord s).extractLsb' 16 8 = s.lastOp := by
  unfold statusWord
  simp only [BitVec.extractLsb'_append_eq_ite]
  simp

/-- Settles O6: a command latches its opcode before its body runs, no body writes LAST_OP, and the opcode of a word that
decodes is its low byte. -/
theorem everyCommandWriteLatchesLastOp : Obligations.EveryCommandWriteLatchesLastOp :=
  ⟨rfl, statusWord_lastOp, fun _ _ _ _ hp h => commandWrite_lastOp (step_writeCmd hp ▸ h),
    fun _ _ h => exec_lastOp h, fun _ _ h => exec_lastOp h⟩

/-! ### KEY -/

/-- The register KEYi (10_state.md R27). -/
def keyReg : Fin 4 → RegName
  | 0 => .key0
  | 1 => .key1
  | 2 => .key2
  | 3 => .key3

theorem regOffset_keyReg (k : Fin 4) : regOffset (keyReg k) = 0x030 + 4 * k.val := by
  revert k
  decide

theorem keyReg_ne_cmd (k : Fin 4) : keyReg k ≠ .cmd := by
  revert k
  decide

theorem readReg_keyReg (k : Fin 4) (s : State) : readReg (keyReg k) s = 0 := by
  fin_cases k <;> rfl

theorem writeReg_keyReg (k : Fin 4) (w : Word) (s : State) : writeReg (keyReg k) w s = setKeyWord k w s := by
  fin_cases k <;> rfl

/-- The key after a Write of `w` to KEYi, byte by byte (10_state.md R27). -/
theorem setKeyWord_key (k : Fin 4) (w : Word) (s : State) (m : Fin 16) :
    (setKeyWord k w s).key[m] =
      if 4 * k.val ≤ m.val ∧ m.val < 4 * k.val + 4 then w.extractLsb' (8 * (m.val - 4 * k.val)) 8 else s.key[m] := by
  simp only [setKeyWord, Fin.getElem_fin, Vector.getElem_set]
  by_cases hm : 4 * k.val ≤ m.val ∧ m.val < 4 * k.val + 4
  · obtain ⟨j, hj⟩ := Nat.exists_eq_add_of_le hm.1
    have hlt : j < 4 := by omega
    simp only [hj]
    interval_cases j <;> simp
  · rw [if_neg hm, if_neg (by omega), if_neg (by omega), if_neg (by omega), if_neg (by omega)]

/-- Of all registers, a Write changes the key through KEY0 to KEY3 alone (10_state.md R27). -/
theorem writeReg_key (h : ∀ k, n ≠ keyReg k) : (writeReg n w s).key = s.key := by
  cases n
  case key0 => exact absurd rfl (h 0)
  case key1 => exact absurd rfl (h 1)
  case key2 => exact absurd rfl (h 2)
  case key3 => exact absurd rfl (h 3)
  all_goals rfl

theorem writeTarget_key {g : Target} (h : ∀ k, g ≠ .reg (keyReg k)) : (writeTarget g w s).key = s.key := by
  cases g with
  | reg n => exact writeReg_key fun k hk => h k (congrArg _ hk)
  | word b k => cases b <;> rfl
  | unmapped => rfl

theorem mem_keyOffsets {k : Fin 4} (h : locate off = .reg (keyReg k)) :
    off ∈ [(0x030 : Offset), 0x034, 0x038, 0x03C] := by
  have ho : off = BitVec.ofNat 12 (0x030 + 4 * k.val) := by
    rw [← regOffset_keyReg, ← locate_eq_reg.1 h, BitVec.ofNat_toNat, BitVec.setWidth_eq]
  subst ho
  fin_cases k <;> decide

/-- The one way into KEY but reset is a Write to KEYi. -/
theorem step_key_changed (h : step s = .next t) (hk : t.key ≠ s.key) :
    ∃ (e : Event) (rest : List Event), s.pending = e :: rest ∧
      (e = .reset ∨ ∃ (off : Offset) (w : Word),
        off ∈ [(0x030 : Offset), 0x034, 0x038, 0x03C] ∧ e = .txn (.write off w)) := by
  rcases step_reset_or_kept_or_write h with ⟨rest, hp⟩ | ⟨hkey, -⟩ | ⟨off, w, rest, hp, rfl⟩
  · exact ⟨_, rest, hp, .inl rfl⟩
  · exact absurd hkey hk
  · by_cases hl : ∃ k, locate off = .reg (keyReg k)
    · obtain ⟨k, hl⟩ := hl
      exact ⟨_, rest, hp, .inr ⟨off, w, mem_keyOffsets hl, rfl⟩⟩
    · exact absurd (writeTarget_key (not_exists.1 hl)) hk

/-- Settles O16: KEYi is written by `setKeyWord` and reads 0, and no other thing a step can do but reset changes KEY. -/
theorem keyIsWrittenByTheHostAlone : Obligations.KeyIsWrittenByTheHostAlone := by
  refine ⟨fun s k off w rest ho hp => ?_, fun s k off rest ho hp => ?_, fun m => ?_, fun _ _ _ h => exec_key h,
    fun _ _ => step_key_changed⟩
  · have hs := step_writeReg hp (ho.trans (regOffset_keyReg k).symm) (keyReg_ne_cmd k)
    rw [writeReg_keyReg] at hs
    exact ⟨_, hs, rfl, setKeyWord_key k w _⟩
  · rw [step_readReg hp (ho.trans (regOffset_keyReg k).symm), readReg_keyReg]
  · simp [State.reset]

/-! ### ERRFLAGS -/

/-- The bit an outcome sets: the one its code numbers, none for OK (60_exceptions.md R283). -/
theorem getLsbD_outcomeFlag (o : OutcomeName) (c : Nat) :
    (outcomeFlag o).getLsbD c = (decide (c ≠ 0) && decide (c = (outcomeCode o).toNat)) := by
  unfold outcomeFlag
  split_ifs with h0
  · rw [h0]
    simp
  · have hlt := (outcomeCode o).isLt
    have hpos : (outcomeCode o).toNat ≠ 0 := fun h => h0 (BitVec.eq_of_toNat_eq h)
    have hbit : (1 <<< (outcomeCode o).toNat : Word) = BitVec.twoPow 32 (outcomeCode o).toNat :=
      (BitVec.twoPow_eq ..).symm
    rw [hbit, BitVec.getLsbD_twoPow, Bool.eq_iff_iff]
    simp only [Bool.and_eq_true, decide_eq_true_eq]
    omega

/-- The live bits are [8:1] (10_state.md R37). -/
theorem getLsbD_errflagsMask (c : Nat) : errflagsMask.getLsbD c = (decide (1 ≤ c) && decide (c ≤ 8)) := by
  by_cases hc : c < 32
  · revert c
    decide
  · have h8 : ¬ c ≤ 8 := by omega
    rw [BitVec.getLsbD_of_ge _ _ (by omega)]
    simp [h8]

/-- A command sets the bit of its outcome and clears none (10_state.md R37; 60_exceptions.md R283). -/
theorem exec_errflags (h : exec i s = .next t) (c : Nat) :
    t.errflags.getLsbD c = (s.errflags.getLsbD c || (decide (c ≠ 0) && decide (c = t.result.toNat))) := by
  obtain ⟨o, hr, he⟩ := exec_errflags_or h
  rw [he, hr, BitVec.getLsbD_or, getLsbD_outcomeFlag]

/-- Write-one-to-clear, bit by bit (10_state.md R37). -/
theorem getLsbD_clearErrflags (w : Word) (s : State) (c : Nat) :
    (clearErrflags w s).errflags.getLsbD c =
      (s.errflags.getLsbD c && !(decide (1 ≤ c) && decide (c ≤ 8) && w.getLsbD c)) := by
  rw [clearErrflags_errflags, BitVec.getLsbD_and, BitVec.getLsbD_not, BitVec.getLsbD_and, getLsbD_errflagsMask]
  by_cases hc : c < 32
  · simp [hc, Bool.and_comm]
  · rw [BitVec.getLsbD_of_ge s.errflags c (by omega), Bool.false_and, Bool.false_and]

/-- Of all that a Write can select, ERRFLAGS alone changes the error flags (10_state.md R37). -/
theorem writeTarget_errflags {g : Target} (h : g ≠ .reg .errflags) : (writeTarget g w s).errflags = s.errflags := by
  cases g with
  | reg n =>
    cases n
    case errflags => exact absurd rfl h
    all_goals rfl
  | word b k => cases b <;> rfl
  | unmapped => rfl

/-- The one way out of ERRFLAGS but reset is a Write to it. -/
theorem step_errflags_cleared {c : Nat} (h : step s = .next t) (hset : s.errflags.getLsbD c = true)
    (hclear : t.errflags.getLsbD c = false) :
    ∃ (e : Event) (rest : List Event), s.pending = e :: rest ∧ (e = .reset ∨ ∃ w, e = .txn (.write 0x008 w)) := by
  rcases step_reset_or_kept_or_write h with ⟨rest, hp⟩ | ⟨-, m, hm⟩ | ⟨off, w, rest, hp, rfl⟩
  · exact ⟨_, rest, hp, .inl rfl⟩
  · simp [hm, hset] at hclear
  · by_cases hl : locate off = .reg .errflags
    · have ho : off = 0x008 := BitVec.eq_of_toNat_eq (locate_eq_reg.1 hl)
      exact ⟨_, rest, hp, .inr ⟨w, by rw [ho]⟩⟩
    · have hkept := writeTarget_errflags (w := w) (s := served rest .writeDone s) hl
      rw [hkept] at hclear
      exact absurd (hset.symm.trans hclear) (by decide)

/-- Settles O18: a command adds the bit of its outcome, a Write to ERRFLAGS clears the live bits of its word, and no
other thing a step can do but reset clears one. -/
theorem errflagsAreStickyAndWriteOneToClear : Obligations.ErrflagsAreStickyAndWriteOneToClear :=
  ⟨fun _ _ hp => step_readReg (n := .errflags) hp rfl, rfl, fun _ _ _ => exec_errflags,
    fun _ w _ hp => ⟨_, step_writeReg (n := .errflags) hp rfl (by decide), rfl, getLsbD_clearErrflags w _⟩,
    fun _ _ _ => step_errflags_cleared⟩

end Sys2Proof.Machine
end

section
/-!
SUPPORT. What a transaction to any offset does in one step: misaligned, unmapped, read-only and buffer offsets, and the
four statements about them (spec/20_memory.md R61 to R67).
-/

namespace Sys2Proof.Machine

open Sys2Proof.Safety

variable {s t : State} {off : Offset} {w : Word} {rest : List Event} {n : RegName} {b : Buf} {k : Nat}

/-! ### One transaction to any offset -/

theorem readTarget_pending (g : Target) (s : State) (l : List Event) :
    readTarget g { s with pending := l } = readTarget g s := by
  cases g with
  | reg n => exact readReg_pending n s l
  | word b k => rfl
  | unmapped => rfl

/-- An aligned Read answers the word its offset holds and changes nothing (20_memory.md R62, R67). -/
theorem step_readTarget (hp : s.pending = .txn (.read off) :: rest) (ha : aligned off = true) :
    step s = .next (served rest (.readData (readTarget (locate off) s)) s) := by
  rw [step_event hp, ← readTarget_pending (locate off) s rest]
  exact if_pos ha

/-- An aligned Write to anything but CMD is a `writeTarget` (20_memory.md R63 to R67). -/
theorem step_writeTarget (hp : s.pending = .txn (.write off w) :: rest) (ha : aligned off = true)
    (hc : locate off ≠ .reg .cmd) : step s = .next (writeTarget (locate off) w (served rest .writeDone s)) := by
  rw [step_event hp]
  exact (if_pos ha).trans (if_neg hc)

theorem step_read_misaligned (hp : s.pending = .txn (.read off) :: rest) (ha : aligned off = false) :
    step s = .next (served rest (.readBusError 0) s) := by
  rw [step_event hp]
  exact if_neg (Bool.eq_false_iff.1 ha)

theorem step_write_misaligned (hp : s.pending = .txn (.write off w) :: rest) (ha : aligned off = false) :
    step s = .next (served rest .writeBusError s) := by
  rw [step_event hp]
  exact if_neg (Bool.eq_false_iff.1 ha)

/-- Settles O9: the port tests the alignment before it looks at the address map. -/
theorem misalignedTransactionsChangeNoState : Obligations.MisalignedTransactionsChangeNoState :=
  fun _ _ _ _ ho =>
    ⟨fun hp => step_read_misaligned hp (aligned_false.2 ho), fun hp => step_write_misaligned hp (aligned_false.2 ho)⟩

/-! ### The address map, the offsets that hold no register -/

theorem locate_eq_unmapped (hr : ∀ n, off.toNat ≠ regOffset n) (hb : ¬ (0x400 ≤ off.toNat ∧ off.toNat < 0x800)) :
    locate off = .unmapped := by
  cases hl : locate off with
  | unmapped => rfl
  | reg n => exact absurd (locate_eq_reg.1 hl) (hr n)
  | word b k =>
    unfold locate at hl
    dsimp only at hl
    rw [if_neg (by omega), if_neg (by omega), if_neg (by omega)] at hl
    split at hl <;> cases hl

/-- The aligned offsets of a buffer select its words (20_memory.md R63, R66). -/
theorem locate_word (ha : off.toNat % 4 = 0) (hlo : bufBase b ≤ off.toNat) (hhi : off.toNat < bufBase b + bufBytes b) :
    ∃ k, locate off = .word b k ∧ bufBase b + 4 * k = off.toNat := by
  have hbase : bufBase b % 4 = 0 := by cases b <;> rfl
  refine ⟨(off.toNat - bufBase b) / 4, ?_, by omega⟩
  unfold locate
  dsimp only
  cases b with
  | inbuf =>
    simp only [bufBase, bufBytes, Config.inbufChars] at hlo hhi
    rw [if_pos (by omega), bufBase]
  | frame =>
    simp only [bufBase, bufBytes, Config.frameBytes] at hlo hhi
    rw [if_neg (by omega), if_pos (by omega), bufBase]
  | pt =>
    simp only [bufBase, bufBytes, Config.ptBytes] at hlo hhi
    rw [if_neg (by omega), if_neg (by omega), if_pos (by omega), bufBase]

/-- The three buffers fill 0x400 to 0x7FF (20_memory.md R63). -/
theorem exists_buf_of_range {a : Nat} (hlo : 0x400 ≤ a) (hhi : a < 0x800) :
    ∃ b, bufBase b ≤ a ∧ a < bufBase b + bufBytes b := by
  by_cases h6 : a < 0x600
  · exact ⟨.inbuf, hlo, h6⟩
  · by_cases h7 : a < 0x700
    · exact ⟨.frame, Nat.le_of_not_lt h6, h7⟩
    · exact ⟨.pt, Nat.le_of_not_lt h7, hhi⟩

/-- No register lies in the gaps of the map below the buffers (20_memory.md R63). -/
theorem regOffset_not_in_gap (n : RegName) :
    ¬ ((0x028 ≤ regOffset n ∧ regOffset n ≤ 0x02C) ∨ regOffset n = 0x07C ∨ 0x0A8 ≤ regOffset n) := by
  cases n <;> decide

theorem locate_of_unmappedOffset (h : unmappedOffset off) : locate off = .unmapped := by
  obtain ⟨-, hrange⟩ := h
  refine locate_eq_unmapped (fun n hn => ?_) (by omega)
  have hgap := regOffset_not_in_gap n
  omega

/-! ### Discarded Writes -/

/-- The targets that a Write acts on: access W, R/W or R/W1C in the map (20_memory.md R63). -/
def takesWrite : Target → Bool
  | .reg .cmd | .reg .errflags | .reg .inLen | .reg .frameLen | .reg .crcStart | .reg .crcLen | .reg .keyLen => true
  | .reg .key0 | .reg .key1 | .reg .key2 | .reg .key3 => true
  | .word .inbuf _ | .word .frame _ => true
  | _ => false

/-- A Write to any other target is discarded (20_memory.md R64, R65). -/
theorem writeTarget_discarded {g : Target} (h : takesWrite g = false) : writeTarget g w s = s := by
  cases g with
  | reg n => cases n <;> cases h <;> rfl
  | word b k =>
    cases b <;> cases h
    rfl
  | unmapped => rfl

theorem step_write_discarded (hp : s.pending = .txn (.write off w) :: rest) (ha : aligned off = true)
    (hd : takesWrite (locate off) = false) : step s = .next (served rest .writeDone s) := by
  have hc : locate off ≠ .reg .cmd := fun hc => by
    rw [hc] at hd
    cases hd
  rw [step_writeTarget hp ha hc, writeTarget_discarded hd]

/-- Settles O11: an unmapped offset selects neither a register nor a buffer word. -/
theorem unmappedOffsetsReadZeroAndIgnoreWrites : Obligations.UnmappedOffsetsReadZeroAndIgnoreWrites := by
  intro s off w rest hu
  have ha : aligned off = true := aligned_iff.2 hu.1
  have hl := locate_of_unmappedOffset hu
  refine ⟨fun hp => ?_, fun hp => step_write_discarded hp ha (hl ▸ rfl)⟩
  rw [step_readTarget hp ha, hl]
  rfl

/-! ### Read-only and write-only offsets -/

/-- The offsets of the registers that a Write acts on (20_memory.md R63). -/
theorem regOffset_of_takesWrite (h : takesWrite (.reg n) = true) :
    regOffset n ≤ 0x018 ∧ regOffset n ≠ 0x004 ∨ regOffset n = 0x020 ∨ 0x030 ≤ regOffset n ∧ regOffset n ≤ 0x03C := by
  revert h
  cases n <;> decide

/-- The words of INBUF and FRAME, the ones a Write acts on, lie below 0x700 (20_memory.md R63). -/
theorem toNat_of_locate_word (h : locate off = .word b k) (hb : b ≠ .pt) : 0x400 ≤ off.toNat ∧ off.toNat < 0x700 := by
  by_contra hout
  unfold locate at h
  dsimp only at h
  rw [if_neg (by omega), if_neg (by omega)] at h
  split_ifs at h
  · cases h
    exact hb rfl
  · split at h <;> cases h

theorem takesWrite_of_readOnlyOffset (h : readOnlyOffset off) : takesWrite (locate off) = false := by
  obtain ⟨-, hrange⟩ := h
  cases hl : locate off with
  | unmapped => rfl
  | reg n =>
    refine Bool.eq_false_iff.2 fun hw => ?_
    have ho := locate_eq_reg.1 hl
    have hn := regOffset_of_takesWrite hw
    omega
  | word b k =>
    by_cases hb : b = .pt
    · rw [hb]
      rfl
    · have hin := toNat_of_locate_word hl hb
      omega

/-- The write-only registers read 0 (20_memory.md R65). -/
theorem reg_of_writeOnlyOffset (h : writeOnlyOffset off) : ∃ n, off.toNat = regOffset n ∧ ∀ s, readReg n s = 0 := by
  rcases h with h | h | h | h | h
  · exact ⟨.cmd, h, fun _ => rfl⟩
  · exact ⟨.key0, h, fun _ => rfl⟩
  · exact ⟨.key1, h, fun _ => rfl⟩
  · exact ⟨.key2, h, fun _ => rfl⟩
  · exact ⟨.key3, h, fun _ => rfl⟩

/-- Settles O12: no read-only offset selects a target that a Write acts on, and CMD and KEY0 to KEY3 read 0. -/
theorem readOnlyAndWriteOnlyOffsets : Obligations.ReadOnlyAndWriteOnlyOffsets := by
  refine fun s off w rest => ⟨fun hr hp => ?_, fun hw hp => ?_⟩
  · exact step_write_discarded hp (aligned_iff.2 hr.1) (takesWrite_of_readOnlyOffset hr)
  · obtain ⟨n, ho, hzero⟩ := reg_of_writeOnlyOffset hw
    rw [step_readReg hp ho, hzero]

/-! ### Buffer words -/

/-- Byte `j` of a host word (20_memory.md R66). -/
theorem byteOf_wordBytes (w : Word) {j : Nat} (hj : j < 4) : byteOf (wordBytes w) j = w.extractLsb' (8 * j) 8 := by
  interval_cases j <;> rfl

/-- A buffer word is its four bytes, the lowest offset lowest (20_memory.md R66). -/
theorem readWord_bytes (b : Buf) (k : Nat) (s : State) {a : Nat} (ha : bufBase b + 4 * k = a) :
    readWord b k s = byteAt s (a + 3) ++ byteAt s (a + 2) ++ byteAt s (a + 1) ++ byteAt s a := by
  rw [readWord, ha, le32]
  simp only [byteOf_bytesAt s a (show 0 + 3 < 4 by decide), byteOf_bytesAt s a (show 0 + 2 < 4 by decide),
    byteOf_bytesAt s a (show 0 + 1 < 4 by decide), byteOf_bytesAt s a (show 0 < 4 by decide), Nat.zero_add,
    Nat.add_zero]

/-- The bytes after a word has been stored: inside it, those of the word; outside it, those before (20_memory.md R66). -/
theorem bytes_of_stored_word {a : Nat} (hm : t.mem = Memory.setBytes s.mem a (wordBytes w)) (hr : t.resets = s.resets) :
    (∀ j, j < 4 → byteAt t (a + j) = w.extractLsb' (8 * j) 8) ∧ keptOutside s t a 4 :=
  ⟨fun _ hj => (byteAt_setBytes_in hm hj).trans (byteOf_wordBytes w hj), fun _ hx => byteAt_setBytes_out hm hr hx⟩

/-- A stored word reads back as it was written (20_memory.md R66). -/
theorem readWord_of_stored_word (hm : t.mem = Memory.setBytes s.mem (bufBase b + 4 * k) (wordBytes w)) :
    readWord b k t = w := by
  have hbytes := bytesAt_of_bytes fun _ hj => byteAt_setBytes_in hm hj
  rw [wordBytes_length] at hbytes
  rw [readWord, hbytes, le32_wordBytes]

/-- A Write to a word of INBUF or FRAME stores it (20_memory.md R66). -/
theorem writeWord_mem (hb : b ≠ .pt) :
    (writeWord b k w s).mem = Memory.setBytes s.mem (bufBase b + 4 * k) (wordBytes w) := by
  cases b with
  | inbuf => rfl
  | frame => rfl
  | pt => exact absurd rfl hb

theorem writeWord_pending (b : Buf) (k : Nat) (w : Word) (s : State) : (writeWord b k w s).pending = s.pending := by
  cases b <;> rfl

theorem step_writeWord (hp : s.pending = .txn (.write off w) :: rest) (ha : aligned off = true)
    (hl : locate off = .word b k) : step s = .next (writeWord b k w (served rest .writeDone s)) := by
  have hs := step_writeTarget hp ha (by rw [hl]; exact Target.noConfusion)
  rwa [hl] at hs

theorem step_readWord (hp : s.pending = .txn (.read off) :: rest) (ha : aligned off = true)
    (hl : locate off = .word b k) : step s = .next (served rest (.readData (readWord b k s)) s) := by
  rw [step_readTarget hp ha, hl]
  rfl

/-- A Read in the buffers answers the four bytes from its offset on (20_memory.md R66). -/
theorem step_read_bytes (hp : s.pending = .txn (.read off) :: rest) (ha : aligned off = true) (hlo : 0x400 ≤ off.toNat)
    (hhi : off.toNat < 0x800) :
    step s = .next (served rest (.readData (byteAt s (off.toNat + 3) ++ byteAt s (off.toNat + 2) ++
      byteAt s (off.toNat + 1) ++ byteAt s off.toNat)) s) := by
  obtain ⟨b, hb, hb'⟩ := exists_buf_of_range hlo hhi
  obtain ⟨k, hl, hk⟩ := locate_word (aligned_iff_toNat.1 ha) hb hb'
  rw [step_readWord hp ha hl, readWord_bytes b k s hk]

/-- A Write and then a Read of a word of INBUF or FRAME answers the word written (20_memory.md R66). -/
theorem step_write_read (hp : s.pending = .txn (.write off w) :: .txn (.read off) :: rest) (ha : aligned off = true)
    (hl : locate off = .word b k) (hb : b ≠ .pt) :
    ∃ t u, step s = .next t ∧ step t = .next u ∧ u.response = some (.readData w) := by
  have hp' := writeWord_pending b k w (served (.txn (.read off) :: rest) .writeDone s)
  refine ⟨_, _, step_writeWord hp ha hl, step_readWord hp' ha hl, ?_⟩
  rw [readWord_of_stored_word (writeWord_mem hb)]
  rfl

/-- Settles O15: an aligned offset of a buffer selects the word that starts at it, a stored word is its four bytes, and PT
takes no Write. -/
theorem bufferWordsAreLittleEndian : Obligations.BufferWordsAreLittleEndian := by
  refine ⟨fun s off rest ho hlo hhi hp => step_read_bytes hp (aligned_iff.2 ho) hlo hhi,
    fun s off w rest ho hp => ?_, fun s off w rest ho hlo hhi hp => ?_⟩
  · have ha := aligned_iff.2 ho
    have hm := aligned_iff_toNat.1 ha
    refine ⟨fun hlo hhi => ?inbuf, fun hlo hhi => ?frame, fun hlo hhi => ?pt⟩
    case inbuf =>
      obtain ⟨k, hl, hk⟩ := locate_word (b := .inbuf) hm hlo hhi
      exact ⟨_, step_writeWord hp ha hl, rfl, hk ▸ bytes_of_stored_word rfl rfl⟩
    case frame =>
      obtain ⟨k, hl, hk⟩ := locate_word (b := .frame) hm hlo hhi
      exact ⟨_, step_writeWord hp ha hl, rfl, hk ▸ bytes_of_stored_word rfl rfl⟩
    case pt =>
      obtain ⟨k, hl, -⟩ := locate_word (b := .pt) hm hlo hhi
      exact step_write_discarded hp ha (hl ▸ rfl)
  · have ha := aligned_iff.2 ho
    have hm := aligned_iff_toNat.1 ha
    by_cases h6 : off.toNat < 0x600
    · obtain ⟨k, hl, -⟩ := locate_word (b := .inbuf) hm hlo h6
      exact step_write_read hp ha hl (by decide)
    · obtain ⟨k, hl, -⟩ := locate_word (b := .frame) hm (Nat.le_of_not_lt h6) hhi
      exact step_write_read hp ha hl (by decide)

end Sys2Proof.Machine
end

section
/-!
SUPPORT. Which words the decoder rejects and why, what a Write of one to CMD leaves, and the statement about illegal
command words (spec/30_encoding.md R91, R92).
-/

namespace Sys2Proof.Machine

open Sys2Proof.Safety

variable {s : State} {w : Word} {rest : List Event} {op : Byte} {e : DecodeError}

/-! ### The words the decoder rejects -/

theorem reservedOpcodes_length : reservedOpcodes.length = 243 := by
  simp [reservedOpcodes]

/-- The thirteen opcodes are not among the 243 reserved ones (30_encoding.md R91, R92). -/
theorem opcodeOf_not_reserved (i : Instr) : (opcodeOf i).toNat ∉ reservedOpcodes := by
  cases i <;> decide

theorem decodeOpcode_of_reserved (h : op.toNat ∈ reservedOpcodes) : decodeOpcode op = none := by
  cases hd : decodeOpcode op with
  | none => rfl
  | some i => exact absurd (decodeOpcode_eq_some.1 hd ▸ h) (opcodeOf_not_reserved i)

/-- Reserved bits are tested first, so the opcode does not matter (30_encoding.md R92). -/
theorem decode_of_reservedBits (h : w.extractLsb' 8 24 ≠ 0) : decode w = .error .reservedBits :=
  if_pos h

theorem decode_of_reservedOpcode (h : w.extractLsb' 8 24 = 0) (ho : (w.extractLsb' 0 8).toNat ∈ reservedOpcodes) :
    decode w = .error .undefinedOpcode := by
  simp only [decode, decodeFields, splitWord, h, decodeOpcode_of_reserved ho, ne_eq, not_true_eq_false, if_false]

/-! ### A Write of a rejected word to CMD -/

/-- Recording an illegal command word writes four fields (30_encoding.md R92). -/
theorem illegalCommand_eq (w : Word) (e : DecodeError) (s : State) :
    illegalCommand w e s = { s with
      result := 6, detail := illegalDetail e, lastOp := w.extractLsb' 0 8, errflags := s.errflags ||| 0x40 } := rfl

theorem step_writeCmd_illegal (hp : s.pending = .txn (.write 0x000 w) :: rest) (hd : decode w = .error e) :
    step s = .next { served rest .writeDone s with
      result := 6, detail := illegalDetail e, lastOp := w.extractLsb' 0 8, errflags := s.errflags ||| 0x40 } := by
  rw [step_writeCmd hp, commandWrite, hd]
  exact congrArg _ (illegalCommand_eq w e _)

/-- Settles O4: the decoder names the reason of each rejected word, and a Write of it to CMD records that reason alone. -/
theorem illegalCommandWordsChangeOnlyTheOutcome : Obligations.IllegalCommandWordsChangeOnlyTheOutcome :=
  ⟨reservedOpcodes_length, fun _ _ _ hp =>
    ⟨fun hr => step_writeCmd_illegal hp (decode_of_reservedBits hr),
      fun hr ho => step_writeCmd_illegal hp (decode_of_reservedOpcode hr ho)⟩⟩

end Sys2Proof.Machine
end

section
/-!
SUPPORT. What HexDecode reads from a text, what the header decoder reads from FRAME, and the two statements about the
frame parser (spec/41_frame_parser.md R160, R162 to R166).
-/

namespace Sys2Proof.Machine

open Sys2Proof.Safety

variable {s : State} {hi lo c : Byte} {rest t b : Bytes}

/-! ### HexDecode, one digit and one pair at a time -/

/-- The three ranges of hex digits, tested on bytes and on numbers (30_encoding.md R95). -/
theorem hexDigit_eq_some {v : Byte} : hexDigit c = some v ↔ isHexDigit c ∧ v.toNat = hexValue c := by
  have hv := v.isLt
  unfold hexDigit isHexDigit hexValue
  simp only [BitVec.le_def, BitVec.reduceToNat]
  split_ifs <;> simp only [Option.some.injEq, false_iff] <;> bv_omega

theorem hexValue_lt_of_isHexDigit (h : isHexDigit c) : hexValue c < 16 := by
  unfold isHexDigit at h
  unfold hexValue
  split_ifs <;> omega

/-- Every hex digit has a value (30_encoding.md R95). -/
theorem exists_hexDigit (h : isHexDigit c) : ∃ v, hexDigit c = some v :=
  ⟨BitVec.ofNat 8 (hexValue c), hexDigit_eq_some.2
    ⟨h, Nat.mod_eq_of_lt (Nat.lt_trans (hexValue_lt_of_isHexDigit h) (by decide))⟩⟩

/-- The text of a pair decodes where both its characters and the text after it do (30_encoding.md R94). -/
theorem hexPairs_cons_cons :
    hexPairs (hi :: lo :: rest) = some b ↔
      ∃ h l r, hexDigit hi = some h ∧ hexDigit lo = some l ∧ hexPairs rest = some r ∧ (16 * h + l) :: r = b := by
  rw [hexPairs]
  split
  next h l r hh hl hr => simp [hh, hl, hr]
  next hnone =>
    refine iff_of_false (Option.some_ne_none b).symm ?_
    rintro ⟨h, l, r, hh, hl, hr, -⟩
    exact hnone h l r hh hl hr

/-- The byte of a digit pair does not wrap (30_encoding.md R94). -/
theorem digitPair_toNat {h l : Byte} (hh : hexDigit hi = some h) (hl : hexDigit lo = some l) :
    (16 * h + l).toNat = 16 * hexValue hi + hexValue lo := by
  obtain ⟨dh, vh⟩ := hexDigit_eq_some.1 hh
  obtain ⟨dl, vl⟩ := hexDigit_eq_some.1 hl
  have bh := hexValue_lt_of_isHexDigit dh
  have bl := hexValue_lt_of_isHexDigit dl
  bv_omega

/-! ### HexDecode of a text -/

theorem isHexDigit_of_hexPairs : ∀ {t b : Bytes}, hexPairs t = some b → ∀ c ∈ t, isHexDigit c
  | [], _, _ => fun _ hc => nomatch hc
  | [_], _, h => nomatch h
  | hi :: lo :: rest, b, h => by
    obtain ⟨_, _, _, hh, hl, hr, -⟩ := hexPairs_cons_cons.1 h
    exact List.forall_mem_cons.2 ⟨(hexDigit_eq_some.1 hh).1,
      List.forall_mem_cons.2 ⟨(hexDigit_eq_some.1 hl).1, isHexDigit_of_hexPairs hr⟩⟩

theorem exists_hexPairs : ∀ {t : Bytes}, t.length % 2 = 0 → (∀ c ∈ t, isHexDigit c) → ∃ b, hexPairs t = some b
  | [], _, _ => ⟨[], rfl⟩
  | [_], hlen, _ => nomatch hlen
  | hi :: lo :: rest, hlen, hd => by
    obtain ⟨dhi, dlo, drest⟩ := List.forall_mem_cons.1 hd |>.imp_right List.forall_mem_cons.1
    obtain ⟨h, hh⟩ := exists_hexDigit dhi
    obtain ⟨l, hl⟩ := exists_hexDigit dlo
    obtain ⟨r, hr⟩ := exists_hexPairs (t := rest) (by simp only [List.length_cons] at hlen; omega) drest
    exact ⟨_, hexPairs_cons_cons.2 ⟨h, l, r, hh, hl, hr, rfl⟩⟩

/-- Byte `i` of a decoded text is its pair `i`, the high nibble first (41_frame_parser.md R160). -/
theorem byteOf_hexPairs : ∀ {t b : Bytes}, hexPairs t = some b → ∀ i, i < b.length →
    (byteOf b i).toNat = 16 * hexValue (byteOf t (2 * i)) + hexValue (byteOf t (2 * i + 1))
  | [], _, h => by
    cases h
    exact fun _ hi => nomatch hi
  | [_], _, h => nomatch h
  | hi :: lo :: rest, b, h => by
    obtain ⟨h, l, r, hh, hl, hr, rfl⟩ := hexPairs_cons_cons.1 h
    intro i hlt
    cases i with
    | zero => exact digitPair_toNat hh hl
    | succ i => exact byteOf_hexPairs hr i (Nat.lt_of_succ_lt_succ hlt)

theorem hexDecode_of_odd (h : t.length % 2 = 1) : hexDecode t = .error 1 :=
  if_pos h

theorem hexDecode_of_bad_digit (h : t.length % 2 = 0) (hbad : ∃ c ∈ t, ¬ isHexDigit c) : hexDecode t = .error 2 := by
  obtain ⟨c, hc, hnot⟩ := hbad
  have hnone : hexPairs t = none := Option.eq_none_iff_forall_ne_some.2 fun _ hb => hnot (isHexDigit_of_hexPairs hb c hc)
  simp [hexDecode, h, hnone]

theorem hexDecode_of_hexPairs (h : hexPairs t = some b) : hexDecode t = .ok b := by
  have hlen : ¬ t.length % 2 = 1 := by have := hexPairs_length h; omega
  simp [hexDecode, hlen, h]

/-- Settles O22: by induction over the pairs of the text, HexDecode reads every pair of digits and no other character. -/
theorem hexDecodeReadsDigitPairs : Obligations.HexDecodeReadsDigitPairs := by
  refine fun t => ⟨hexDecode_of_odd, hexDecode_of_bad_digit, fun hlen hdigits => ?_⟩
  obtain ⟨b, hb⟩ := exists_hexPairs hlen hdigits
  have hok := hexDecode_of_hexPairs hb
  exact ⟨b, hok, hexDecode_length hok, byteOf_hexPairs hb⟩

/-! ### The frame as the header decoder reads it -/

@[simp] theorem frameString_length (s : State) : (frameString s).length = s.frameLen.toNat :=
  bytesAt_length _ _ _

/-- Byte `i` of the frame is the byte of FRAME at 0x600 + `i` (20_memory.md R63, R66). -/
theorem byteOf_frameString {i : Nat} (h : i < s.frameLen.toNat) : byteOf (frameString s) i = byteAt s (0x600 + i) :=
  byteOf_bytesAt s _ h

theorem le16_frameString {o : Nat} (h : o + 1 < s.frameLen.toNat) :
    le16 (frameString s) o = byteAt s (0x600 + o + 1) ++ byteAt s (0x600 + o) := by
  rw [le16, byteOf_frameString h, byteOf_frameString (Nat.lt_of_succ_lt h), Nat.add_assoc]

theorem le32_frameString {o : Nat} (h : o + 3 < s.frameLen.toNat) :
    le32 (frameString s) o =
      byteAt s (0x600 + o + 3) ++ byteAt s (0x600 + o + 2) ++ byteAt s (0x600 + o + 1) ++ byteAt s (0x600 + o) := by
  rw [le32, byteOf_frameString h, byteOf_frameString (by omega), byteOf_frameString (by omega),
    byteOf_frameString (by omega)]
  simp only [Nat.add_assoc]

/-! ### PARSE -/

/-- Recording OK writes RESULT and DETAIL alone (60_exceptions.md R283). -/
theorem recordOutcome_ok (d : BitVec 4) (s : State) : recordOutcome .ok d s = { s with result := 0, detail := d } := by
  simp [recordOutcome, outcomeCode]

/-- PARSE of a frame of legal length, as one update of the state (41_frame_parser.md R164, R165). -/
theorem exec_parse_ok (hlo : 19 ≤ s.frameLen.toNat) (hhi : s.frameLen.toNat ≤ 256) :
    exec .parse s = .next { s with
      hdr := parseHeader (frameString s), iv := deriveIV (frameString s), hdrValid := true, ptValid := false,
      dataValid := false, result := 0, detail := 0, lastOp := 0x02 } := by
  have hbody := parseBody_eq (latchOp (opcodeOf .parse) s)
  rw [latchOp_frameLen, if_neg (Nat.not_lt.2 hhi), if_neg (Nat.not_lt.2 hlo)] at hbody
  rw [exec_ended (i := .parse) hbody, recordOutcome_ok]
  rfl

/-- PAY_LEN is what the header and the trailer leave of the frame (41_frame_parser.md R162; 10_state.md R46). -/
theorem parseHeader_payLen (s : State) :
    (parseHeader (frameString s)).payLen.toNat = s.frameLen.toNat - 19 := by
  have hlt := s.frameLen.isLt
  have hmin : Config.minFrame = 19 := rfl
  simp only [parseHeader, frameString_length, hmin, BitVec.toNat_ofNat]
  omega

/-- TRAILER is the last two bytes of the frame, little-endian (41_frame_parser.md R162; 10_state.md R47). -/
theorem parseHeader_trailer (h : 2 ≤ s.frameLen.toNat) :
    (parseHeader (frameString s)).trailer =
      byteAt s (0x600 + s.frameLen.toNat - 1) ++ byteAt s (0x600 + s.frameLen.toNat - 2) := by
  have htrailer : Config.trailerBytes = 2 := rfl
  simp only [parseHeader, frameString_length, htrailer]
  rw [le16_frameString (by omega), show 0x600 + (s.frameLen.toNat - 2) = 0x600 + s.frameLen.toNat - 2 by omega,
    show 0x600 + s.frameLen.toNat - 2 + 1 = 0x600 + s.frameLen.toNat - 1 by omega]

/-- Counter block 0: the header bytes that stand in IV, and three zero bytes (41_frame_parser.md R163). -/
theorem deriveIV_frameString (h : 19 ≤ s.frameLen.toNat) :
    (deriveIV (frameString s)).toList = [byteAt s 0x602, byteAt s 0x603, byteAt s 0x604, byteAt s 0x605, byteAt s 0x606,
      byteAt s 0x607, byteAt s 0x608, byteAt s 0x609, byteAt s 0x60B, byteAt s 0x60D, byteAt s 0x60E, byteAt s 0x60F,
      byteAt s 0x610, 0x00, 0x00, 0x00] := by
  simp (disch := omega) only [deriveIV, byteOf_frameString]
  rfl

/-- Settles O25: PARSE of a frame of legal length is one update, and each byte of the frame it reads is one of FRAME. -/
theorem parseWritesEveryHeaderRegister : Obligations.ParseWritesEveryHeaderRegister := by
  intro s hlo hhi
  have byte (i : Nat) (hi : i < 19) : byteOf (frameString s) i = byteAt s (0x600 + i) :=
    byteOf_frameString (Nat.lt_of_lt_of_le hi hlo)
  refine ⟨_, exec_parse_ok hlo hhi, rfl, fun _ => byteAt_congr rfl rfl _, ?header, deriveIV_frameString hlo⟩
  exact ⟨byte 0 (by decide), byte 1 (by decide), byte 8 (by decide), byte 9 (by decide), byte 10 (by decide),
    byte 11 (by decide), byte 12 (by decide), le16_frameString (o := 2) (by omega), le32_frameString (o := 4) (by omega),
    le32_frameString (o := 13) (by omega), rfl, rfl, rfl, parseHeader_payLen s, parseHeader_trailer (by omega)⟩

end Sys2Proof.Machine
end

section
/-!
SUPPORT. Where the payload field scanner stops, and the statement about it (spec/43_extract.md R234).
-/

namespace Sys2Proof.Machine

variable {p pat : Bytes} {i : Nat}

theorem matchesAt_eq_true :
    matchesAt p pat i = true ↔ i + pat.length + 4 ≤ p.length ∧ slice p i (i + pat.length) = pat := by
  simp [matchesAt]

theorem matchesAt_eq_false :
    matchesAt p pat i = false ↔ (i + pat.length + 4 ≤ p.length → slice p i (i + pat.length) ≠ pat) := by
  rw [← Bool.not_eq_true, matchesAt_eq_true, not_and]

/-- The scan runs over every index from 3 on that can match, so it stops at the lowest one (43_extract.md R234). -/
theorem scanField_of_first_match (h3 : 3 ≤ i) (hi : matchesAt p pat i = true)
    (hfirst : ∀ k, 3 ≤ k → k < i → matchesAt p pat k = false) :
    scanField p pat = some (le32 p (i + pat.length)) := by
  have hmem : i ∈ List.range' 3 p.length := by
    have hin := (matchesAt_eq_true.1 hi).1
    exact List.mem_range'_1.2 ⟨h3, by omega⟩
  have hfind : (List.range' 3 p.length).find? (matchesAt p pat) = some i :=
    List.find?_range'_eq_some.2 ⟨hi, hmem, fun k hk hlt => by rw [hfirst k hk hlt, Bool.not_false]⟩
  rw [scanField, hfind]

theorem scanField_of_no_match (hnone : ∀ k, 3 ≤ k → matchesAt p pat k = false) : scanField p pat = none := by
  have hfind : (List.range' 3 p.length).find? (matchesAt p pat) = none :=
    List.find?_eq_none.2 fun k hk => Bool.not_eq_true _ ▸ hnone k (List.mem_range'_1.1 hk).1
  rw [scanField, hfind]

/-- Settles O34: an index matches when the pattern stands there with its value inside the payload, and the scan stops at
the lowest such index from 3 on, or at none. -/
theorem scanFieldTakesTheFirstMatch : Obligations.ScanFieldTakesTheFirstMatch := by
  refine fun p pat => ⟨fun i h3 hin hpat hfirst => ?found, fun hnone => ?notFound⟩
  case found =>
    exact scanField_of_first_match h3 (matchesAt_eq_true.2 ⟨hin, hpat⟩)
      fun k hk hlt => matchesAt_eq_false.2 fun _ => hfirst k hk hlt
  case notFound =>
    exact scanField_of_no_match fun k hk => matchesAt_eq_false.2 (hnone k hk)

end Sys2Proof.Machine
end

section
/-!
SUPPORT. What a command that ends in OK records, and the statement about NOP (spec/44_control.md R260).
-/

namespace Sys2Proof.Machine

variable {s t : State} {i : Instr} {d : BitVec 4}

/-- A command whose body finishes in OK writes RESULT and DETAIL after it, and no bit of ERRFLAGS (60_exceptions.md
R283). -/
theorem exec_finish (h : bodyOf i (latchOp (opcodeOf i) s) = finish d t) :
    exec i s = .next { t with result := 0, detail := d } := by
  rw [exec_ended h, recordOutcome_ok]

/-- Settles O20: the body of NOP finishes at once in OK(0), so LAST_OP, latched before it, and the recorded outcome are
all that NOP writes. -/
theorem nopRecordsOkAndNothingElse : Obligations.NopRecordsOkAndNothingElse := by
  intro s
  have hbody : bodyOf .nop (latchOp (opcodeOf .nop) s) = finish 0 { s with lastOp := 0x00 } := rfl
  exact exec_finish hbody

end Sys2Proof.Machine
end

section
/-!
SUPPORT. What reset does in one step, and the statement about the reset values (spec/70_reset_and_hazards.md R310).
-/

namespace Sys2Proof.Machine

open Sys2Proof.Safety

variable {s : State} {rest : List Event}

/-- The reset table says nothing of the buffers, the queue, the answer and the number of resets
(70_reset_and_hazards.md R310, R311). -/
theorem registersReset_congr (s : State) (m : Memory) (l : List Event) (r : Option Response) (k : Nat) :
    registersReset { s with mem := m, pending := l, response := r, resets := k } ↔ registersReset s :=
  Iff.rfl

theorem statusWord_reset : statusWord State.reset = 0 := by decide

/-- The reset state, row by row of the reset table (70_reset_and_hazards.md R310). -/
theorem registersReset_reset : registersReset State.reset := by
  have keyZero (i : Fin 16) : State.reset.key[i] = 0 := Vector.getElem_replicate i.isLt
  have ivZero (i : Fin 16) : State.reset.iv[i] = 0 := Vector.getElem_replicate i.isLt
  exact ⟨⟨rfl, rfl, rfl, rfl, rfl⟩, ⟨rfl, rfl, rfl, statusWord_reset, rfl⟩, ⟨rfl, rfl, rfl, rfl, rfl⟩, keyZero, rfl, rfl,
    ⟨rfl, rfl, rfl, rfl, rfl, rfl, rfl, rfl, rfl, rfl, rfl, rfl, rfl, rfl, rfl⟩, ivZero,
    ⟨rfl, rfl, rfl, rfl, rfl, rfl⟩⟩

/-- Whatever the registers held, reset leaves the values of the reset table (70_reset_and_hazards.md R310). -/
theorem registersReset_applyReset (s : State) : registersReset (applyReset s) :=
  (registersReset_congr State.reset [] s.pending none (s.resets + 1)).2 registersReset_reset

/-- A reset event at the head of the queue is served by `applyReset` (70_reset_and_hazards.md R312). -/
theorem step_reset (hp : s.pending = .reset :: rest) : step s = .next (applyReset { s with pending := rest }) :=
  step_event hp

/-- Settles O8: the reset state has the values of the table, and a reset event overwrites every register with them and
keeps of the state before it only the queue and the number of resets, of which the table does not speak. -/
theorem resetPutsEveryRegisterAtItsValue : Obligations.ResetPutsEveryRegisterAtItsValue :=
  ⟨registersReset_reset, fun _ _ hp => ⟨_, step_reset hp, registersReset_applyReset _⟩⟩

end Sys2Proof.Machine
end

section
/-!
SUPPORT. Which word each command has, and the four statements about the decoder and its use by a step (spec/30_encoding.md
R90 to R93, spec/44_control.md R259).
-/

namespace Sys2Proof.Machine

open Sys2Proof.Safety

variable {w : Word} {i : Instr}

/-! ### The word of a command -/

/-- The two fields of the word the encoder writes: RSVD = 0 and the opcode (30_encoding.md R90). -/
theorem splitWord_encode (i : Instr) : splitWord (encode i) = { rsvd := 0, opcode := opcodeOf i } := by
  cases i <;> rfl

/-- A word is its two fields (30_encoding.md R90). -/
theorem joinWord_splitWord (w : Word) : joinWord (splitWord w) = w :=
  (BitVec.extractLsb'_append_extractLsb'_eq_extractLsb' rfl).trans BitVec.extractLsb'_eq_self

theorem splitWord_inj {v : Word} (h : splitWord v = splitWord w) : v = w := by
  rw [← joinWord_splitWord v, h, joinWord_splitWord]

/-- The decoder accepts a split word when RSVD is 0 and the opcode is the command's (30_encoding.md R91, R92). -/
theorem decodeFields_eq_ok {c : CmdWord} : decodeFields c = .ok i ↔ c = { rsvd := 0, opcode := opcodeOf i } := by
  obtain ⟨rsvd, op⟩ := c
  rw [CmdWord.mk.injEq, ← decodeOpcode_eq_some, decodeFields]
  by_cases hr : rsvd = 0
  · cases ho : decodeOpcode op <;> simp [hr]
  · exact iff_of_false (by rw [if_pos hr]; exact nofun) fun h => hr h.1

theorem decode_eq_ok : decode w = .ok i ↔ w = encode i := by
  rw [decode, decodeFields_eq_ok, ← splitWord_encode]
  exact ⟨splitWord_inj, fun h => congrArg _ h⟩

/-- Settles O2: a word is its two fields, and the decoder accepts those the encoder writes, RSVD = 0 and the command's
opcode, alone. -/
theorem decodeAcceptsExactlyTheThirteenWords : Obligations.DecodeAcceptsExactlyTheThirteenWords :=
  fun _ _ => decode_eq_ok

/-- Settles O1, as one half of O2. -/
theorem decodeOfEncodeIsTheCommand : Obligations.DecodeOfEncodeIsTheCommand :=
  fun _ _ => decode_eq_ok.2 rfl

/-- Settles O3: each of the seven words is the encoding of its command, and the other two fail one test each. -/
theorem wordsOfTheOpcodeMapDecode : Obligations.WordsOfTheOpcodeMapDecode := by
  have hundefined : decode 0x00000006 = .error .undefinedOpcode := decode_of_reservedOpcode rfl (by decide)
  have hreserved : decode 0x00000110 = .error .reservedBits := decode_of_reservedBits (by decide)
  exact ⟨decode_eq_ok.2 rfl, decode_eq_ok.2 rfl, decode_eq_ok.2 rfl, decode_eq_ok.2 rfl, decode_eq_ok.2 rfl,
    decode_eq_ok.2 rfl, decode_eq_ok.2 rfl, hundefined, hreserved⟩

/-! ### A step at a Write to CMD, and with no event -/

/-- Settles O5: a Write to CMD goes to the decoder, and what it accepts is executed. -/
theorem stepRunsTheDecodedCommand : Obligations.StepRunsTheDecodedCommand := by
  intro s w i rest hp hd
  rw [step_writeCmd hp, commandWrite, hd]

theorem step_idle {s : State} (hp : s.pending = []) : step s = .next s := by
  rw [step, servePending, hp]

/-- Settles O7: a step serves the head of the queue, and there is none. -/
theorem anIdleBlockKeepsItsState : Obligations.AnIdleBlockKeepsItsState :=
  fun _ => step_idle

end Sys2Proof.Machine
end

section
/-!
SUPPORT. The outcome each command records and the operands none writes, and the two statements about them
(spec/60_exceptions.md R282, R283, spec/10_state.md R22 to R27).
-/

namespace Sys2Proof.Machine

open Sys2Proof.Safety

variable {s t : State} {o : OutcomeName} {d : BitVec 4} {i : Instr}

/-! ### Every way a body ends is a row of the outcome table -/

theorem legal_hexdec (h : hexdecBody s = .ended t o d) : (o, d) ∈ legalOutcomes := by
  rcases hexdecBody_ended h with ⟨rfl, rfl | rfl | rfl, -⟩ | ⟨r, rfl, rfl, -⟩ <;> decide

theorem legal_parse (h : parseBody s = .ended t o d) : (o, d) ∈ legalOutcomes := by
  rcases parseBody_ended h with ⟨rfl, rfl | rfl, -⟩ | ⟨rfl, rfl, -⟩ <;> decide

theorem legal_decrypt (h : decryptBody s = .ended t o d) : (o, d) ∈ legalOutcomes := by
  rcases decryptBody_ended h with ⟨⟨rfl, rfl⟩ | ⟨rfl, rfl | rfl⟩ | ⟨rfl, rfl⟩, -⟩ | ⟨rfl, rfl, -⟩ | ⟨rfl, rfl, -⟩ |
    ⟨rfl, rfl, -⟩ <;> decide

theorem legal_extract (h : extractBody s = .ended t o d) : (o, d) ∈ legalOutcomes := by
  rcases extractBody_ended h with ⟨rfl, rfl, -⟩ | ⟨-, -, rfl, rfl | rfl | rfl, -⟩ | ⟨x, -, -, rfl, rfl, -⟩ <;> decide

theorem legal_extractDirect (h : extractDirectBody s = .ended t o d) : (o, d) ∈ legalOutcomes := by
  rcases extractDirectBody_ended h with ⟨rfl, rfl, -⟩ | ⟨-, rfl, rfl | rfl | rfl, -⟩ | ⟨x, -, rfl, rfl, -⟩ <;> decide

theorem legal_checkTrailer (h : checkTrailerBody s = .ended t o d) : (o, d) ∈ legalOutcomes := by
  rcases checkTrailerBody_ended h with ⟨rfl, rfl | rfl, -⟩ | ⟨⟨rfl, rfl⟩ | ⟨rfl, rfl⟩, -⟩ <;> decide

theorem legal_checkPcrc (h : checkPcrcBody s = .ended t o d) : (o, d) ∈ legalOutcomes := by
  rcases checkPcrcBody_ended h with ⟨rfl, rfl | rfl | rfl, -⟩ | ⟨⟨rfl, rfl⟩ | ⟨rfl, rfl⟩, -⟩ <;> decide

/-- Two stages end as one of them does. -/
theorem legal_andThen {f g : State → BodyEnd} (hf : ∀ {s t o d}, f s = .ended t o d → (o, d) ∈ legalOutcomes)
    (hg : ∀ {s t o d}, g s = .ended t o d → (o, d) ∈ legalOutcomes) {s t : State} {o : OutcomeName} {d : BitVec 4}
    (h : andThen f g s = .ended t o d) : (o, d) ∈ legalOutcomes := by
  rcases andThen_ended h with ⟨h, -⟩ | ⟨u, _, -, h⟩
  · exact hf h
  · exact hg h

/-- No body ends with a pair outside the outcome table (60_exceptions.md R282). -/
theorem legal_body (h : bodyOf i s = .ended t o d) : (o, d) ∈ legalOutcomes := by
  cases i <;> simp only [bodyOf] at h
  case nop => cases h; decide
  case hexdec => exact legal_hexdec h
  case parse => exact legal_parse h
  case decrypt => exact legal_decrypt h
  case extract => exact legal_extract h
  case extractDirect => exact legal_extractDirect h
  case crcCcitt => rcases crcCcittBody_ended h with ⟨rfl, rfl | rfl, -⟩ | ⟨rfl, rfl, -⟩ <;> decide
  case crcWmbus => rcases crcWmbusBody_ended h with ⟨rfl, rfl | rfl, -⟩ | ⟨rfl, rfl, -⟩ <;> decide
  case checkTrailer => exact legal_checkTrailer h
  case checkPcrc => exact legal_checkPcrc h
  case process => exact legal_andThen legal_hexdec (legal_andThen legal_parse (legal_andThen legal_decrypt legal_extract)) h
  case processBin => exact legal_andThen legal_parse (legal_andThen legal_decrypt legal_extract) h
  case clear => cases h; decide

/-! ### What a command records -/

/-- Recording a pair of the table leaves it in RESULT and DETAIL (60_exceptions.md R282, R283). -/
theorem outcomeOk_recordOutcome (h : (o, d) ∈ legalOutcomes) (s : State) : outcomeOk (recordOutcome o d s) :=
  ⟨(o, d), h, rfl, rfl⟩

theorem exec_outcomeOk (h : exec i s = .next t) : outcomeOk t := by
  obtain ⟨u, o, d, hu, rfl⟩ := exec_next.1 h
  exact outcomeOk_recordOutcome (legal_body hu) u

/-- Settles O48: LAST_OP is latched before the body and kept by it, the body ends with a row of the outcome table, and
recording it adds the flag of its code. -/
theorem commandsRecordALegalOutcome : Obligations.CommandsRecordALegalOutcome := by
  intro i s t h
  obtain ⟨o, hr, he⟩ := exec_errflags_or h
  exact ⟨exec_lastOp h, exec_outcomeOk h, by rw [he, hr]; rfl⟩

/-! ### The fields each command writes -/

/-- The state before with the fields that the command's rule names as they are after it (44_control.md R260 to R263 for
the control commands and pipelines, the rule of each command's own section for the others). -/
def mayWrite (i : Instr) (s t : State) : State :=
  match i with
  | .nop => s
  | .hexdec =>
    { s with mem := t.mem, frameLen := t.frameLen,
             hdrValid := t.hdrValid, ptValid := t.ptValid, dataValid := t.dataValid }
  | .parse =>
    { s with hdr := t.hdr, iv := t.iv, hdrValid := t.hdrValid, ptValid := t.ptValid, dataValid := t.dataValid }
  | .decrypt => { s with mem := t.mem, pcrc := t.pcrc, ptLen := t.ptLen, ptValid := t.ptValid }
  | .extract | .extractDirect =>
    { s with val0 := t.val0, val1 := t.val1, val2 := t.val2, val3 := t.val3, valFound := t.valFound,
             fmt := t.fmt, dsrc := t.dsrc, dataValid := t.dataValid }
  | .crcCcitt | .crcWmbus | .checkTrailer => { s with crcResult := t.crcResult }
  | .checkPcrc => { s with crcResult := t.crcResult, pcrc := t.pcrc }
  | .process =>
    { s with mem := t.mem, frameLen := t.frameLen, hdr := t.hdr, iv := t.iv, pcrc := t.pcrc, ptLen := t.ptLen,
             val0 := t.val0, val1 := t.val1, val2 := t.val2, val3 := t.val3, valFound := t.valFound,
             fmt := t.fmt, dsrc := t.dsrc, hdrValid := t.hdrValid, ptValid := t.ptValid, dataValid := t.dataValid }
  | .processBin =>
    { s with mem := t.mem, hdr := t.hdr, iv := t.iv, pcrc := t.pcrc, ptLen := t.ptLen,
             val0 := t.val0, val1 := t.val1, val2 := t.val2, val3 := t.val3, valFound := t.valFound,
             fmt := t.fmt, dsrc := t.dsrc, hdrValid := t.hdrValid, ptValid := t.ptValid, dataValid := t.dataValid }
  | .clear =>
    { s with hdr := t.hdr, iv := t.iv, pcrc := t.pcrc, ptLen := t.ptLen, crcResult := t.crcResult,
             val0 := t.val0, val1 := t.val1, val2 := t.val2, val3 := t.val3, valFound := t.valFound,
             fmt := t.fmt, dsrc := t.dsrc, hdrValid := t.hdrValid, ptValid := t.ptValid, dataValid := t.dataValid }

theorem hexdec_writes (h : hexdecBody s = .ended t o d) : t = mayWrite .hexdec s t := by
  rcases hexdecBody_ended h with ⟨-, -, rfl⟩ | ⟨r, -, -, -, -, rfl⟩ <;> rfl

theorem parse_writes (h : parseBody s = .ended t o d) : t = mayWrite .parse s t := by
  rcases parseBody_ended h with ⟨-, -, rfl⟩ | ⟨-, -, -, -, rfl⟩ <;> rfl

theorem decrypt_writes (h : decryptBody s = .ended t o d) : t = mayWrite .decrypt s t := by
  rcases decryptBody_ended h with ⟨-, rfl⟩ | ⟨-, -, -, -, rfl⟩ | ⟨-, -, rfl⟩ | ⟨-, -, -, -, -, -, -, -, rfl⟩ <;> rfl

theorem extract_writes (h : extractBody s = .ended t o d) : t = mayWrite .extract s t := by
  rcases extractBody_ended h with ⟨-, -, -, rfl⟩ | ⟨-, -, -, -, -, rfl⟩ | ⟨x, -, -, -, -, -, rfl⟩ <;> rfl

/-- What the stages of a pipeline write, the pipeline may write (44_control.md R261, R262): one field at a time, as it
stands either in the state before or in the one after. -/
theorem mayWrite_process_of_stage (hi : i ∈ [Instr.hexdec, .processBin]) (h : t = mayWrite i s t) :
    t = mayWrite .process s t := by
  have hsub : mayWrite i s t = mayWrite .process s (mayWrite i s t) := by
    fin_cases hi <;> rfl
  exact h.trans (hsub.trans (congrArg (mayWrite .process s) h.symm))

theorem mayWrite_processBin_of_stage (hi : i ∈ [Instr.parse, .decrypt, .extract]) (h : t = mayWrite i s t) :
    t = mayWrite .processBin s t := by
  have hsub : mayWrite i s t = mayWrite .processBin s (mayWrite i s t) := by
    fin_cases hi <;> rfl
  exact h.trans (hsub.trans (congrArg (mayWrite .processBin s) h.symm))

/-- Two runs that keep to the fields of one command keep to them together. -/
theorem mayWrite_trans {u : State} (hu : u = mayWrite i s u) (ht : t = mayWrite i u t) : t = mayWrite i s t := by
  have hskip : mayWrite i (mayWrite i s u) t = mayWrite i s t := by
    cases i <;> rfl
  exact ht.trans ((congrArg (mayWrite i · t) hu).trans hskip)

theorem processBin_writes (h : processBinBody s = .ended t o d) : t = mayWrite .processBin s t := by
  rcases andThen_ended h with ⟨h, -⟩ | ⟨u, _, hu, h⟩
  · exact mayWrite_processBin_of_stage (by decide) (parse_writes h)
  have hp := mayWrite_processBin_of_stage (by decide) (parse_writes hu)
  rcases andThen_ended h with ⟨h, -⟩ | ⟨v, _, hv, h⟩
  · exact mayWrite_trans hp (mayWrite_processBin_of_stage (by decide) (decrypt_writes h))
  have hd := mayWrite_processBin_of_stage (by decide) (decrypt_writes hv)
  exact mayWrite_trans hp (mayWrite_trans hd (mayWrite_processBin_of_stage (by decide) (extract_writes h)))

theorem process_writes (h : processBody s = .ended t o d) : t = mayWrite .process s t := by
  rcases andThen_ended h with ⟨h, -⟩ | ⟨u, _, hu, h⟩
  · exact mayWrite_process_of_stage (by decide) (hexdec_writes h)
  · exact mayWrite_trans (mayWrite_process_of_stage (by decide) (hexdec_writes hu))
      (mayWrite_process_of_stage (by decide) (processBin_writes h))

/-- A body writes the fields of `mayWrite` alone. -/
theorem body_writes (h : bodyOf i s = .ended t o d) : t = mayWrite i s t := by
  cases i <;> simp only [bodyOf] at h
  case nop => cases h; rfl
  case hexdec => exact hexdec_writes h
  case parse => exact parse_writes h
  case decrypt => exact decrypt_writes h
  case extract => exact extract_writes h
  case extractDirect =>
    rcases extractDirectBody_ended h with ⟨-, -, rfl⟩ | ⟨-, -, -, -, rfl⟩ | ⟨x, -, -, -, -, rfl⟩ <;> rfl
  case crcCcitt => rcases crcCcittBody_ended h with ⟨-, -, rfl⟩ | ⟨-, -, rfl⟩ <;> rfl
  case crcWmbus => rcases crcWmbusBody_ended h with ⟨-, -, rfl⟩ | ⟨-, -, rfl⟩ <;> rfl
  case checkTrailer => rcases checkTrailerBody_ended h with ⟨-, -, rfl⟩ | ⟨-, rfl⟩ <;> rfl
  case checkPcrc => rcases checkPcrcBody_ended h with ⟨-, -, rfl⟩ | ⟨-, rfl⟩ <;> rfl
  case process => exact process_writes h
  case processBin => exact processBin_writes h
  case clear => cases h; rfl

/-- A command writes LAST_OP, the outcome and ERRFLAGS beside the fields of `mayWrite`. -/
theorem exec_writes (h : exec i s = .next t) : ∃ l r d e, t = withOutcome l r d e (mayWrite i s t) := by
  obtain ⟨u, o, d, hu, rfl⟩ := exec_next.1 h
  have hw : recordOutcome o d u = recordOutcome o d (mayWrite i (latchOp (opcodeOf i) s) u) :=
    congrArg _ (body_writes hu)
  have hframe : recordOutcome o d (mayWrite i (latchOp (opcodeOf i) s) u) =
      withOutcome (opcodeOf i) (outcomeCode o) d (s.errflags ||| outcomeFlag o)
        (mayWrite i s (recordOutcome o d u)) := by
    cases i <;> rfl
  exact ⟨_, _, _, _, hw.trans hframe⟩

/-! ### Which command's rule names a register -/

theorem mayWrite_frameLen (h1 : i ≠ .hexdec) (h2 : i ≠ .process) : (mayWrite i s t).frameLen = s.frameLen := by
  revert h1 h2
  cases i <;> simp [mayWrite]

theorem mayWrite_crcResult (hi : i ∉ [Instr.crcCcitt, .crcWmbus, .checkTrailer, .checkPcrc, .clear]) :
    (mayWrite i s t).crcResult = s.crcResult := by
  revert hi
  cases i <;> simp [mayWrite]

theorem mayWrite_pcrc (hi : i ∉ [Instr.decrypt, .checkPcrc, .process, .processBin, .clear]) :
    (mayWrite i s t).pcrc = s.pcrc := by
  revert hi
  cases i <;> simp [mayWrite]

theorem mayWrite_header (hi : i ∉ [Instr.parse, .process, .processBin, .clear]) :
    (mayWrite i s t).hdr = s.hdr ∧ (mayWrite i s t).iv = s.iv := by
  revert hi
  cases i <;> simp [mayWrite]

theorem mayWrite_ptLen (hi : i ∉ [Instr.decrypt, .process, .processBin, .clear]) :
    (mayWrite i s t).ptLen = s.ptLen := by
  revert hi
  cases i <;> simp [mayWrite]

theorem mayWrite_values (hi : i ∉ [Instr.extract, .extractDirect, .process, .processBin, .clear]) :
    (mayWrite i s t).val0 = s.val0 ∧ (mayWrite i s t).val1 = s.val1 ∧ (mayWrite i s t).val2 = s.val2 ∧
      (mayWrite i s t).val3 = s.val3 ∧ (mayWrite i s t).valFound = s.valFound ∧ (mayWrite i s t).fmt = s.fmt ∧
      (mayWrite i s t).dsrc = s.dsrc := by
  revert hi
  cases i <;> simp [mayWrite]

/-- Settles O49: no body writes what `Kept` lists, and FRAME_LEN is a field of HEXDEC's and PROCESS's alone. -/
theorem commandsKeepTheHostOperands : Obligations.CommandsKeepTheHostOperands := by
  intro i s t h
  obtain ⟨l, r, d', e, hw⟩ := exec_writes h
  obtain ⟨u, o, d, hk, rfl⟩ := exec_kept h
  exact ⟨hk.inLen, hk.crcStart, hk.crcLen, hk.keyLen, hk.key,
    fun h1 h2 => (congrArg State.frameLen hw).trans (mayWrite_frameLen h1 h2), hk.pending, hk.response, hk.resets⟩

/-- Settles O51: a result register that a command's rule does not name is no field that the command writes. -/
theorem commandsWriteOnlyTheirResultRegisters : Obligations.CommandsWriteOnlyTheirResultRegisters := by
  intro i s t h
  obtain ⟨l, r, d, e, hw⟩ := exec_writes h
  refine ⟨fun hi => ?crcResult, fun hi => ?pcrc, fun hi => ?header, fun hi => ?ptLen, fun hi => ?values⟩ <;> rw [hw]
  case crcResult => exact mayWrite_crcResult hi
  case pcrc => exact mayWrite_pcrc hi
  case header => exact mayWrite_header hi
  case ptLen => exact mayWrite_ptLen hi
  case values => exact mayWrite_values hi

end Sys2Proof.Machine
end

section
/-!
SUPPORT. The invariant of the block: what of it a command's body keeps, what each event keeps, and the four statements
about it (spec/10_state.md R28 to R31, spec/20_memory.md R68, spec/60_exceptions.md R280, R285).
-/

namespace Sys2Proof.Machine

open Sys2Proof.Safety

variable {s t : State} {o : OutcomeName} {d : BitVec 4} {i : Instr} {m : Memory} {a : Nat} {bs : Bytes}

/-! ### The strings a write leaves alone -/

/-- A string read clear of the bytes written reads as before. -/
theorem bytesAt_setBytes_disjoint {c n : Nat} (hm : t.mem = Memory.setBytes s.mem a bs) (hr : t.resets = s.resets)
    (h : c + n ≤ a ∨ a + bs.length ≤ c) : bytesAt t c n = bytesAt s c n :=
  bytesAt_congr fun _ hi => byteAt_setBytes_out hm hr (by omega)

/-- A string reads back as it was written. -/
theorem bytesAt_setBytes_self (hm : t.mem = Memory.setBytes s.mem a bs) : bytesAt t a bs.length = bs :=
  bytesAt_of_bytes fun _ hi => byteAt_setBytes_in hm hi

/-! ### What a body keeps of the invariant -/

/-- The invariant of the block but for the outcome and the error flags, which are recorded after the body. -/
structure DecodedOk (s : State) : Prop where
  memory : memoryOk s
  lengths : lengthsOk s
  session : sessionOk s
  ivTail : ivTailOk s
  header : headerOk s
  plain : plainOk s
  data : dataOk s

theorem blockInvariant_iff : BlockInvariant s ↔ outcomeOk s ∧ errflagsOk s ∧ DecodedOk s := by
  constructor
  · rintro ⟨hm, ho, he, hl, hs, hi, hh, hp, hd⟩
    exact ⟨ho, he, ⟨hm, hl, hs, hi, hh, hp, hd⟩⟩
  · rintro ⟨ho, he, ⟨hm, hl, hs, hi, hh, hp, hd⟩⟩
    exact ⟨hm, ho, he, hl, hs, hi, hh, hp, hd⟩

/-- The invariant of the decoded state does not speak of the operands but FRAME_LEN, of the outcome, the CRC results and
the port. -/
theorem DecodedOk.unread (h : DecodedOk s) (k : Vector Byte 16) (n c1 c2 : Half) (l : Byte) (r d : BitVec 4) (op : Byte)
    (e : Word) (c : Half) (p : Word) (q : List Event) (x : Option Response) :
    DecodedOk { s with key := k, inLen := n, crcStart := c1, crcLen := c2, keyLen := l, result := r, detail := d,
                       lastOp := op, errflags := e, crcResult := c, pcrc := p, pending := q, response := x } :=
  ⟨h.memory, h.lengths, h.session, h.ivTail, h.header, h.plain, h.data⟩

/-- With the valid flags down, the buffers and FRAME_LEN are free (20_memory.md R67, R68). -/
theorem DecodedOk.invalidated (h : DecodedOk s) (hm : Memory.wf m) (n : Half) :
    DecodedOk (invalidate { s with mem := m, frameLen := n }) :=
  ⟨hm, h.lengths, h.session, h.ivTail, nofun, nofun, nofun⟩

theorem DecodedOk.invalidate (h : DecodedOk s) : DecodedOk (invalidate s) :=
  h.invalidated h.memory s.frameLen

/-- A write that changes none of the strings that the valid flags speak of keeps the invariant. -/
theorem DecodedOk.stored (h : DecodedOk s) (hm : Memory.wf m) (hf : frameString { s with mem := m } = frameString s)
    (hc : cipherText { s with mem := m } = cipherText s) (hp : plainText { s with mem := m } = plainText s) :
    DecodedOk { s with mem := m } := by
  refine ⟨hm, h.lengths, h.session, h.ivTail, ?header, ?plain, ?data⟩
  case header =>
    unfold headerOk
    rw [hf]
    exact h.header
  case plain =>
    unfold plainOk
    rw [hc, hp]
    exact h.plain
  case data =>
    unfold dataOk
    rw [hf, hp]
    exact h.data

/-- A string stored in INBUF lies below FRAME and PT (10_state.md R53). -/
theorem DecodedOk.stored_inbuf (h : DecodedOk s) (hlo : 0x400 ≤ a) (hhi : a + bs.length ≤ 0x600) :
    DecodedOk { s with mem := Memory.setBytes s.mem a bs } := by
  have hwf : Memory.wf (Memory.setBytes s.mem a bs) :=
    setBytes_wf bs h.memory fun _ => ⟨hlo, by simp only [memEnd]; omega⟩
  have hkept (c n : Nat) (hc : 0x600 ≤ c) :
      bytesAt { s with mem := Memory.setBytes s.mem a bs } c n = bytesAt s c n :=
    bytesAt_setBytes_disjoint rfl rfl (.inr (by omega))
  exact h.stored hwf (hkept _ _ (by decide)) (hkept _ _ (by decide)) (hkept _ _ (by decide))

/-! ### Each body keeps it -/

theorem DecodedOk.hexdec (h : DecodedOk s) (he : hexdecBody s = .ended t o d) : DecodedOk t := by
  rcases hexdecBody_ended he with ⟨-, -, rfl⟩ | ⟨r, -, -, hn, hr, rfl⟩
  · exact h.invalidate
  · have hlen : r.length ≤ 256 := by
      have := hexDecode_length hr
      simp only [inText, bytesAt_length] at this
      omega
    exact h.invalidated (setBytes_wf r h.memory fun _ => by simp only [memBase, memEnd, bufBase]; omega) _

theorem DecodedOk.parse (h : DecodedOk s) (he : parseBody s = .ended t o d) : DecodedOk t := by
  rcases parseBody_ended he with ⟨-, -, rfl⟩ | ⟨-, -, hlo, hhi, rfl⟩
  · exact h.invalidate
  · have hpay : (parseHeader (frameString s)).payLen.toNat ≤ 237 := by
      rw [parseHeader_payLen]
      omega
    exact ⟨h.memory, ⟨hpay, h.lengths.2⟩, ⟨rfl, rfl, rfl⟩, ⟨rfl, rfl, rfl⟩, fun _ => ⟨hlo, hhi, rfl, rfl⟩, nofun, nofun⟩

/-- The plaintext of the payload that stands in FRAME, under KEY and IV (42_decrypt.md R201). -/
def payloadOf (s : State) : Bytes :=
  ctrCrypt (keyString s) (ivPrefix s) (cipherText s)

/-- What a DECRYPT that passes the CRC writes (42_decrypt.md R201). -/
def published (p : Bytes) (s : State) : State :=
  { s with pcrc := pcrcWord p, mem := Memory.setBytes s.mem (bufBase .pt) p, ptLen := s.hdr.payLen, ptValid := true }

/-- DECRYPT's plaintext is as long as PAY_LEN says (42_decrypt.md R201). -/
theorem payloadOf_length (s : State) : (payloadOf s).length = s.hdr.payLen.toNat := by
  rw [payloadOf, decrypted_length, cipherText, bytesAt_length]

theorem frameString_published (p : Bytes) (h : s.frameLen.toNat ≤ 256) :
    frameString (published p s) = frameString s :=
  bytesAt_setBytes_disjoint rfl rfl (.inl (by simp only [bufBase, published]; omega))

theorem cipherText_published (p : Bytes) (h : s.hdr.payLen.toNat ≤ 239) :
    cipherText (published p s) = cipherText s :=
  bytesAt_setBytes_disjoint rfl rfl (.inl (by simp only [bufBase, Config.hdrBytes, published]; omega))

theorem plainText_published {p : Bytes} (h : p.length = s.hdr.payLen.toNat) : plainText (published p s) = p := by
  have hp : bytesAt (published p s) (bufBase .pt) p.length = p := bytesAt_setBytes_self (s := s) rfl
  rwa [h] at hp

theorem dataOk_pt (h : s.dsrc = .pt) :
    dataOk s ↔ (s.dataValid = true → s.ptValid = true ∧ extractFields (plainText s) = .ok (extracted s)) := by
  rw [dataOk, h]

theorem dataOk_frame (h : s.dsrc = .frame) :
    dataOk s ↔
      (s.dataValid = true → s.frameLen.toNat ≤ 256 ∧ extractFields (frameString s) = .ok (extracted s)) := by
  rw [dataOk, h]

/-- A plaintext that passes its CRC, once published, is what PT_VALID says PT holds (10_state.md R30). -/
theorem DecodedOk.published (h : DecodedOk s) (hh : s.hdrValid = true) (hv : s.ptValid = false)
    (h2 : 2 ≤ s.hdr.payLen.toNat) (hok : payloadCrcOk (payloadOf s) = true) :
    DecodedOk (published (payloadOf s) s) := by
  have hpay := h.lengths.1
  obtain ⟨hlo, hhi, hhdr, hiv⟩ := h.header hh
  have hlen := payloadOf_length s
  have hf := frameString_published (payloadOf s) hhi
  have hc := cipherText_published (payloadOf s) (Nat.le_trans hpay (by decide))
  have hp := plainText_published hlen
  have hwf : memoryOk (Machine.published (payloadOf s) s) :=
    setBytes_wf _ h.memory fun _ => by simp only [memBase, memEnd, bufBase]; omega
  refine ⟨hwf, ⟨hpay, hpay⟩, h.session, h.ivTail, fun _ => ?header, fun _ => ?plain, ?data⟩
  case header =>
    rw [hf]
    exact ⟨hlo, hhi, hhdr, hiv⟩
  case plain =>
    rw [hp, hc]
    exact ⟨hh, rfl, h2, hok, keyString s, keyString_length s, rfl⟩
  case data =>
    cases hsrc : s.dsrc with
    | pt =>
      intro hd
      obtain ⟨hpt, -⟩ := (dataOk_pt hsrc).1 h.data hd
      exact absurd hpt (Bool.eq_false_iff.1 hv)
    | frame =>
      refine (dataOk_frame (s := Machine.published (payloadOf s) s) hsrc).2 fun hd => ?_
      rw [hf]
      exact (dataOk_frame hsrc).1 h.data hd

theorem DecodedOk.decrypt (h : DecodedOk s) (he : decryptBody s = .ended t o d) : DecodedOk t := by
  rcases decryptBody_ended he with ⟨-, rfl⟩ | ⟨-, -, -, -, rfl⟩ | ⟨-, -, rfl⟩ | ⟨-, -, hh, hv, -, h2, -, hok, rfl⟩
  · exact h
  · exact h
  · exact h.unread ..
  · exact h.published hh hv h2 hok

theorem DecodedOk.invalidateData (h : DecodedOk s) : DecodedOk (invalidateData s) :=
  ⟨h.memory, h.lengths, h.session, h.ivTail, h.header, h.plain, nofun⟩

theorem DecodedOk.extract (h : DecodedOk s) (he : extractBody s = .ended t o d) : DecodedOk t := by
  rcases extractBody_ended he with ⟨-, -, -, rfl⟩ | ⟨-, -, -, -, -, rfl⟩ | ⟨x, hv, -, -, -, hx, rfl⟩
  · exact h
  · exact h.invalidateData
  · exact ⟨h.memory, h.lengths, h.session, h.ivTail, h.header, h.plain, fun _ => ⟨hv, hx⟩⟩

theorem DecodedOk.extractDirect (h : DecodedOk s) (he : extractDirectBody s = .ended t o d) : DecodedOk t := by
  rcases extractDirectBody_ended he with ⟨-, -, rfl⟩ | ⟨-, -, -, -, rfl⟩ | ⟨x, hn, -, -, hx, rfl⟩
  · exact h
  · exact h.invalidateData
  · exact ⟨h.memory, h.lengths, h.session, h.ivTail, h.header, h.plain, fun _ => ⟨hn, hx⟩⟩

/-- The zeroed header registers have legal lengths and the session fields of HDR_SN = 0 (10_state.md R45, R46). -/
theorem headerZero_ok : lengthsOk State.reset ∧ sessionOk State.reset :=
  ⟨⟨by decide, by decide⟩, by decide, by decide, by decide⟩

/-- CLEAR leaves nothing that a valid flag could speak of (44_control.md R263). -/
theorem DecodedOk.cleared (h : DecodedOk s) : DecodedOk (clearDecoded s) :=
  ⟨h.memory, headerZero_ok.1, headerZero_ok.2, ⟨rfl, rfl, rfl⟩, nofun, nofun, nofun⟩

/-- Two stages keep what each of them keeps. -/
theorem DecodedOk.andThen {f g : State → BodyEnd} (h : DecodedOk s)
    (hf : ∀ {s t o d}, DecodedOk s → f s = .ended t o d → DecodedOk t)
    (hg : ∀ {s t o d}, DecodedOk s → g s = .ended t o d → DecodedOk t) (he : andThen f g s = .ended t o d) :
    DecodedOk t := by
  rcases andThen_ended he with ⟨he, -⟩ | ⟨u, _, hu, he⟩
  · exact hf h he
  · exact hg (hf h hu) he

theorem DecodedOk.processBin (h : DecodedOk s) (he : processBinBody s = .ended t o d) : DecodedOk t :=
  h.andThen DecodedOk.parse (fun h => h.andThen DecodedOk.decrypt DecodedOk.extract) he

theorem DecodedOk.body (h : DecodedOk s) (he : bodyOf i s = .ended t o d) : DecodedOk t := by
  cases i <;> simp only [bodyOf] at he
  case nop => cases he; exact h
  case hexdec => exact h.hexdec he
  case parse => exact h.parse he
  case decrypt => exact h.decrypt he
  case extract => exact h.extract he
  case extractDirect => exact h.extractDirect he
  case crcCcitt =>
    rcases crcCcittBody_ended he with ⟨-, -, rfl⟩ | ⟨-, -, rfl⟩
    · exact h
    · exact h.unread ..
  case crcWmbus =>
    rcases crcWmbusBody_ended he with ⟨-, -, rfl⟩ | ⟨-, -, rfl⟩
    · exact h
    · exact h.unread ..
  case checkTrailer =>
    rcases checkTrailerBody_ended he with ⟨-, -, rfl⟩ | ⟨-, rfl⟩
    · exact h
    · exact h.unread ..
  case checkPcrc =>
    rcases checkPcrcBody_ended he with ⟨-, -, rfl⟩ | ⟨-, rfl⟩
    · exact h
    · exact h.unread ..
  case process => exact h.andThen DecodedOk.hexdec DecodedOk.processBin he
  case processBin => exact h.processBin he
  case clear => cases he; exact h.cleared

/-! ### Each event keeps the invariant -/

/-- Setting live bits of ERRFLAGS keeps the reserved ones 0 (10_state.md R37). -/
theorem errflags_or_live {e f : Word} (he : e &&& ~~~errflagsMask = 0) (hf : f &&& ~~~errflagsMask = 0) :
    (e ||| f) &&& ~~~errflagsMask = 0 := by
  rw [BitVec.and_comm, BitVec.and_or_distrib_left, BitVec.and_comm, he, BitVec.and_comm, hf, BitVec.or_self]

/-- Clearing bits of ERRFLAGS keeps the reserved ones 0 (10_state.md R37). -/
theorem errflags_and_live {e f : Word} (he : e &&& ~~~errflagsMask = 0) : (e &&& f) &&& ~~~errflagsMask = 0 := by
  rw [BitVec.and_assoc, BitVec.and_comm f, ← BitVec.and_assoc, he]
  exact BitVec.zero_and

/-- The invariant says nothing of the port (log 1, log 3). -/
theorem blockInvariant_port (h : BlockInvariant s) (q : List Event) (x : Option Response) :
    BlockInvariant { s with pending := q, response := x } :=
  h

theorem exec_keeps_invariant (h : BlockInvariant s) (he : exec i s = .next t) : BlockInvariant t := by
  obtain ⟨-, herr, hdec⟩ := blockInvariant_iff.1 h
  obtain ⟨f, -, hf⟩ := exec_errflags_or he
  have herr' : errflagsOk t := by
    rw [errflagsOk, hf]
    exact errflags_or_live herr (outcomeFlag_live f)
  obtain ⟨u, o, d, hu, rfl⟩ := exec_next.1 he
  have hlatched : DecodedOk (latchOp (opcodeOf i) s) := hdec.unread ..
  have hbody : DecodedOk u := hlatched.body hu
  exact blockInvariant_iff.2 ⟨exec_outcomeOk he, herr', hbody.unread ..⟩

theorem illegalCommand_keeps_invariant (h : BlockInvariant s) (w : Word) (e : DecodeError) :
    BlockInvariant (illegalCommand w e s) := by
  obtain ⟨-, herr, hdec⟩ := blockInvariant_iff.1 h
  have hpair : (OutcomeName.illegalCommand, illegalDetail e) ∈ legalOutcomes := by cases e <;> decide
  exact blockInvariant_iff.2
    ⟨outcomeOk_recordOutcome hpair _, errflags_or_live herr (outcomeFlag_live _), hdec.unread ..⟩

/-- A host write to anything but CMD changes operands or INBUF, or clears the valid flags (20_memory.md R67, R68). -/
theorem writeTarget_keeps_invariant (h : BlockInvariant s) (off : Offset) (w : Word) :
    BlockInvariant (writeTarget (locate off) w s) := by
  obtain ⟨hout, herr, hdec⟩ := blockInvariant_iff.1 h
  rcases writeTarget_cases off w s with ⟨k, n, c1, c2, l, m, hw⟩ | ⟨n, hw⟩ | ⟨k, hk, hw⟩ | ⟨k, hk, hw⟩ <;>
    rw [hw, blockInvariant_iff]
  · exact ⟨hout, errflags_and_live herr, hdec.unread ..⟩
  · exact ⟨hout, herr, hdec.invalidated hdec.memory n⟩
  · exact ⟨hout, herr, hdec.stored_inbuf (by simp only [bufBase]; omega) (by simp only [bufBase, wordBytes_length]; omega)⟩
  · refine ⟨hout, herr, hdec.invalidated (setBytes_wf _ hdec.memory fun _ => ?_) s.frameLen⟩
    simp only [memBase, memEnd, bufBase, wordBytes_length]
    omega

/-- The invariant of the reset state, also with events queued and resets counted. -/
theorem blockInvariant_reset (q : List Event) (k : Nat) :
    BlockInvariant { State.reset with pending := q, resets := k } := by
  have hout : outcomeOk State.reset := ⟨(.ok, 0), by decide, rfl, rfl⟩
  have herr : errflagsOk State.reset := BitVec.zero_and
  exact blockInvariant_iff.2 ⟨hout, herr,
    ⟨reset_mem_wf, headerZero_ok.1, headerZero_ok.2, ⟨rfl, rfl, rfl⟩, nofun, nofun, nofun⟩⟩

/-- Settles O55: nothing is valid after reset, and the registers are 0. -/
theorem resetMeetsTheInvariant : Obligations.ResetMeetsTheInvariant :=
  blockInvariant_reset [] 0

theorem step_keeps_invariant (h : BlockInvariant s) (hs : step s = .next t) : BlockInvariant t := by
  rcases step_cases s with ⟨-, hc⟩ | ⟨rest, -, hc⟩ | ⟨e, rest, r, -, hc⟩ | ⟨w, i, rest, -, -, hc⟩ |
    ⟨w, e, rest, -, -, hc⟩ | ⟨off, w, rest, -, -, hc⟩ <;> rw [hc] at hs
  case inr.inr.inr.inl => exact exec_keeps_invariant (blockInvariant_port h rest _) hs
  all_goals cases hs
  · exact h
  · exact blockInvariant_reset rest _
  · exact blockInvariant_port h rest _
  · exact illegalCommand_keeps_invariant (blockInvariant_port h rest _) w e
  · exact writeTarget_keeps_invariant (blockInvariant_port h rest _) off w

/-- Settles O56: the decoded part of the invariant is kept by every body, and a host write that could break it clears the
valid flags. -/
theorem everyStepKeepsTheInvariant : Obligations.EveryStepKeepsTheInvariant :=
  fun _ _ h hs => step_keeps_invariant h hs

/-! ### No step stops -/

theorem decrypt_ends (h : DecodedOk s) : ∃ t o d, decryptBody s = .ended t o d := by
  have hpay : ¬ 239 < s.hdr.payLen.toNat := by
    have := h.lengths.1
    omega
  rw [decryptBody_eq, if_neg hpay]
  split_ifs <;> exact ⟨_, _, _, rfl⟩

theorem extractFrom_ends (src : Source) (p : Bytes) (s : State) : ∃ t o d, extractFrom src p s = .ended t o d := by
  unfold extractFrom
  cases extractFields p with
  | error e => exact ⟨_, _, _, rfl⟩
  | ok x => exact ⟨_, _, _, rfl⟩

theorem extract_ends (h : DecodedOk s) : ∃ t o d, extractBody s = .ended t o d := by
  have hpt : ¬ 256 < s.ptLen.toNat := by
    have := h.lengths.2
    omega
  rw [extractBody_eq, if_neg hpt]
  split_ifs
  · exact ⟨_, _, _, rfl⟩
  · exact extractFrom_ends ..

theorem hexdec_ends (s : State) : ∃ t o d, hexdecBody s = .ended t o d := by
  rw [hexdecBody_eq]
  split_ifs
  · exact ⟨_, _, _, rfl⟩
  · cases hexDecode (inText s) with
    | error e => exact ⟨_, _, _, rfl⟩
    | ok r => exact ⟨_, _, _, rfl⟩

theorem parse_ends (s : State) : ∃ t o d, parseBody s = .ended t o d := by
  rw [parseBody_eq]
  split_ifs <;> exact ⟨_, _, _, rfl⟩

/-- Two stages end when the second ends wherever the first leads. -/
theorem andThen_ends {f g : State → BodyEnd} (hf : ∃ t o d, f s = .ended t o d)
    (hg : ∀ {t o d}, f s = .ended t o d → ∃ u o d, g t = .ended u o d) : ∃ t o d, andThen f g s = .ended t o d := by
  obtain ⟨t, o, d, ht⟩ := hf
  by_cases ho : o = .ok
  · subst ho
    rw [andThen_ok ht]
    exact hg ht
  · exact ⟨t, o, d, andThen_stop ht ho⟩

theorem processBin_ends (h : DecodedOk s) : ∃ t o d, processBinBody s = .ended t o d :=
  andThen_ends (parse_ends s) fun hp => andThen_ends (decrypt_ends (h.parse hp)) fun hd =>
    extract_ends ((h.parse hp).decrypt hd)

/-- Under the invariant every body ends: PAY_LEN and PT_LEN stay inside their buffers (20_memory.md R70). -/
theorem body_ends (i : Instr) (h : DecodedOk s) : ∃ t o d, bodyOf i s = .ended t o d := by
  cases i <;> simp only [bodyOf]
  case nop => exact ⟨_, _, _, rfl⟩
  case hexdec => exact hexdec_ends s
  case parse => exact parse_ends s
  case decrypt => exact decrypt_ends h
  case extract => exact extract_ends h
  case extractDirect =>
    rw [extractDirectBody_eq]
    split_ifs
    · exact ⟨_, _, _, rfl⟩
    · exact extractFrom_ends ..
  case crcCcitt => rw [crcCcittBody_eq]; split_ifs <;> exact ⟨_, _, _, rfl⟩
  case crcWmbus => rw [crcWmbusBody_eq]; split_ifs <;> exact ⟨_, _, _, rfl⟩
  case checkTrailer => rw [checkTrailerBody_eq]; split_ifs <;> exact ⟨_, _, _, rfl⟩
  case checkPcrc => rw [checkPcrcBody_eq]; split_ifs <;> exact ⟨_, _, _, rfl⟩
  case process => exact andThen_ends (hexdec_ends s) fun hx => processBin_ends (h.hexdec hx)
  case processBin => exact processBin_ends h
  case clear => exact ⟨_, _, _, rfl⟩

theorem exec_answers (h : BlockInvariant s) (i : Instr) : ∃ t, exec i s = .next t := by
  obtain ⟨-, -, hdec⟩ := blockInvariant_iff.1 h
  have hlatched : DecodedOk (latchOp (opcodeOf i) s) := hdec.unread ..
  obtain ⟨u, o, d, hu⟩ := body_ends i hlatched
  exact ⟨_, exec_ended hu⟩

theorem step_answers (h : BlockInvariant s) : ∃ t, step s = .next t := by
  rcases step_cases s with ⟨-, hc⟩ | ⟨rest, -, hc⟩ | ⟨e, rest, r, -, hc⟩ | ⟨w, i, rest, -, -, hc⟩ |
    ⟨w, e, rest, -, -, hc⟩ | ⟨off, w, rest, -, -, hc⟩ <;> rw [hc]
  case inr.inr.inr.inl => exact exec_answers (blockInvariant_port h rest _) i
  all_goals exact ⟨_, rfl⟩

/-- Settles O57: only a command can stop, and under the invariant every body ends. -/
theorem noStepStopsUnderTheInvariant : Obligations.NoStepStopsUnderTheInvariant :=
  fun _ h => step_answers h

/-- A run goes on from the state its first step answers. -/
theorem run_succ (n : Nat) (h : step s = .next t) : core.run (n + 1) s = core.run n t := by
  have hstep : core.step s = .next t := h
  simp only [Host.Core.run, hstep]

theorem neverStops_of_invariant (h : BlockInvariant s) : NeverStops s := by
  intro n
  induction n generalizing s with
  | zero => exact ⟨s, rfl⟩
  | succ n ih =>
    obtain ⟨t, ht⟩ := step_answers h
    obtain ⟨u, hu⟩ := ih (step_keeps_invariant h ht)
    exact ⟨u, (run_succ n ht).trans hu⟩

/-- Settles O58: the invariant holds after reset whatever is queued, every step keeps it, and under it no step stops. -/
theorem noRunFromResetStops : Obligations.NoRunFromResetStops :=
  fun events => neverStops_of_invariant (blockInvariant_reset events 0)

end Sys2Proof.Machine
end

section
/-!
SUPPORT. What a Read answers and a Write to an operand register keeps, the bits of a register that can read other than 0,
the layout of STATUS, and the six statements about them (spec/20_memory.md R62 to R67, spec/10_state.md R22 to R28).
-/

namespace Sys2Proof.Machine

open Sys2Proof.Safety

variable {s t : State} {off : Offset} {w : Word} {rest : List Event} {n : RegName}

/-! ### Reads -/

/-- Every Read, aligned or not, leaves an answer that the offset and the block's own state fix, and nothing else
(20_memory.md R61, R62, R67). -/
def readAnswer (off : Offset) (s : State) : Response :=
  if aligned off then .readData (readTarget (locate off) s) else .readBusError 0

theorem step_read (hp : s.pending = .txn (.read off) :: rest) : step s = .next (served rest (readAnswer off s) s) := by
  rw [readAnswer]
  split_ifs with ha
  · exact step_readTarget hp ha
  · exact step_read_misaligned hp (Bool.eq_false_iff.2 ha)

/-- What a target reads as does not depend on the port (20_memory.md R67). -/
theorem readTarget_served (g : Target) (s : State) (l : List Event) (r : Response) :
    readTarget g (served l r s) = readTarget g s := by
  cases g with
  | reg n => cases n <;> rfl
  | word b k => rfl
  | unmapped => rfl

theorem readAnswer_served (off : Offset) (s : State) (l : List Event) (r : Response) :
    readAnswer off (served l r s) = readAnswer off s := by
  rw [readAnswer, readTarget_served, readAnswer]

/-- Settles O10: a Read leaves its answer alone, and no answer depends on the one before. -/
theorem readsHaveNoSideEffect : Obligations.ReadsHaveNoSideEffect := by
  refine ⟨fun s off rest ho hp => step_readTarget hp (aligned_iff.2 ho), fun s off rest hp => ?_⟩
  refine ⟨_, _, step_read hp, step_read rfl, ?_⟩
  exact congrArg some (readAnswer_served off s _ _)

/-- No target reads the key: KEY0 to KEY3 read 0 (10_state.md R27). -/
theorem readTarget_key (g : Target) (s : State) (k : Vector Byte 16) :
    readTarget g { s with key := k } = readTarget g s := by
  cases g with
  | reg n => cases n <;> rfl
  | word b k => rfl
  | unmapped => rfl

theorem readAnswer_key (off : Offset) (s : State) (k : Vector Byte 16) :
    readAnswer off { s with key := k } = readAnswer off s := by
  rw [readAnswer, readTarget_key, readAnswer]

/-- Settles O17: the answer of a Read does not depend on KEY, and a Read changes nothing else. -/
theorem noReadRevealsTheKey : Obligations.NoReadRevealsTheKey := by
  intro s k off rest hp
  refine ⟨_, step_read hp, ?_⟩
  have hk : step { s with key := k } = .next (served rest (readAnswer off { s with key := k }) { s with key := k }) :=
    step_read hp
  rw [hk, readAnswer_key]
  rfl

/-! ### The width of a register -/

/-- Zero-extension leaves the bits above the width 0 (20_memory.md R63). -/
theorem setWidth_and_above {v : Nat} (x : BitVec v) {m : Word} (hm : ∀ j, j < v → m.getLsbD j = true) :
    x.setWidth 32 &&& ~~~m = 0 := by
  refine BitVec.eq_of_getLsbD_eq fun j hj => ?_
  by_cases hv : j < v
  · simp [hm j hv]
  · simp [BitVec.getLsbD_of_ge x j (Nat.le_of_not_lt hv)]

theorem and_above_full (x : Word) : x &&& ~~~(0xFFFFFFFF : Word) = 0 :=
  BitVec.and_zero

/-- No register reads other than 0 above its width (20_memory.md R63). -/
theorem readReg_above (n : RegName) (s : State) : readReg n s &&& ~~~(liveBits n) = 0 := by
  cases n
  case cmd | key0 | key1 | key2 | key3 => exact BitVec.zero_and
  case status | pcrc | hdrA | hdrSn | iv0 | iv1 | iv2 | iv3 | val0 | val1 | val2 | val3 => exact and_above_full _
  case errflags =>
    have hmask : errflagsMask &&& ~~~errflagsMask = 0 := by decide
    exact (BitVec.and_assoc ..).trans (hmask ▸ BitVec.and_zero)
  all_goals exact setWidth_and_above _ (by decide)

/-- Settles O13: the address map lists each register at its offset, and a Read zero-extends. -/
theorem registersReadZeroAboveTheirWidth : Obligations.RegistersReadZeroAboveTheirWidth := by
  intro s n off ho
  have hl := locate_eq_reg.2 ho
  exact ⟨hl, by rw [hl]; rfl, readReg_above n s⟩

/-! ### The value of each register -/

/-- A byte of IV, as the words IV0 to IV3 read it (10_state.md R48). -/
theorem le32_iv (iv : Vector Byte 16) {o : Nat} (ho : o + 3 < 16) :
    le32 iv.toList o = iv[o + 3] ++ iv[o + 2] ++ iv[o + 1] ++ iv[o] := by
  have byte (j : Nat) (hj : j < 16) : byteOf iv.toList j = iv[j] := by simp [byteOf, hj]
  rw [le32, byte _ ho, byte _ (by omega), byte _ (by omega), byte _ (by omega)]

/-- Settles O59: each offset selects its register, and a Read answers that register's value. -/
theorem registerReadsReturnTheirValues : Obligations.RegisterReadsReturnTheirValues := by
  intro s off v rest hv hp
  have read (n : RegName) (ho : off.toNat = regOffset n) (hr : readReg n s = v) :
      step s = .next (served rest (.readData v) s) := hr ▸ step_readReg hp ho
  fin_cases hv
  · exact read .inLen rfl rfl
  · exact read .frameLen rfl rfl
  · exact read .crcStart rfl rfl
  · exact read .crcLen rfl rfl
  · exact read .crcResult rfl rfl
  · exact read .keyLen rfl rfl
  · exact read .pcrc rfl rfl
  · exact read .hdrL rfl rfl
  · exact read .hdrC rfl rfl
  · exact read .hdrM rfl rfl
  · exact read .hdrA rfl rfl
  · exact read .hdrVer rfl rfl
  · exact read .hdrMed rfl rfl
  · exact read .hdrCi rfl rfl
  · exact read .hdrCc rfl rfl
  · exact read .hdrAcc rfl rfl
  · exact read .hdrSn rfl rfl
  · exact read .snEnc rfl rfl
  · exact read .snTime rfl rfl
  · exact read .snSession rfl rfl
  · exact read .payLen rfl rfl
  · exact read .trailer rfl rfl
  · exact read .iv0 rfl (le32_iv s.iv (by decide))
  · exact read .iv1 rfl (le32_iv s.iv (by decide))
  · exact read .iv2 rfl (le32_iv s.iv (by decide))
  · exact read .iv3 rfl (le32_iv s.iv (by decide))
  · exact read .val0 rfl rfl
  · exact read .val1 rfl rfl
  · exact read .val2 rfl rfl
  · exact read .val3 rfl rfl
  · exact read .ptLen rfl rfl
  · exact read .valFound rfl rfl

/-! ### Operand registers -/

/-- Zero-extending the low half of a word masks it (10_state.md R22 to R25). -/
theorem setWidth_low_half (w : Word) : (w.extractLsb' 0 16).setWidth 32 = w &&& 0xFFFF := by
  refine BitVec.eq_of_getLsbD_eq fun j hj => ?_
  have hmask : (0xFFFF : Word).getLsbD j = decide (j < 16) := by
    revert j
    decide
  rw [BitVec.getLsbD_and, hmask]
  simp [hj, Bool.and_comm]

/-- Zero-extending the low byte of a word masks it (10_state.md R26). -/
theorem setWidth_low_byte (w : Word) : (w.extractLsb' 0 8).setWidth 32 = w &&& 0xFF := by
  refine BitVec.eq_of_getLsbD_eq fun j hj => ?_
  have hmask : (0xFF : Word).getLsbD j = decide (j < 8) := by
    revert j
    decide
  rw [BitVec.getLsbD_and, hmask]
  simp [hj, Bool.and_comm]

theorem writeReg_pending (n : RegName) (w : Word) (s : State) : (writeReg n w s).pending = s.pending := by
  cases n <;> rfl

/-- A Write and then a Read of one register answers what the register reads as after the Write (20_memory.md R67). -/
theorem step_writeReg_readReg (hp : s.pending = .txn (.write off w) :: .txn (.read off) :: rest)
    (ho : off.toNat = regOffset n) (hn : n ≠ .cmd) {v : Word} (hv : ∀ u, readReg n (writeReg n w u) = v) :
    ∃ t u, step s = .next t ∧ step t = .next u ∧ u.response = some (.readData v) := by
  refine ⟨_, _, step_writeReg hp ho hn, step_readReg (writeReg_pending n w _) ho, ?_⟩
  rw [hv]
  rfl

/-- Settles O14: each operand register is one `writeReg`, and reads back zero-extended. -/
theorem operandRegistersKeepTheirListedBits : Obligations.OperandRegistersKeepTheirListedBits := by
  refine ⟨fun s off w rest hp => ⟨?_, ?_, ?_, ?_, ?_⟩, fun s off m w rest hm hp => ?_⟩
  · rintro rfl
    exact step_writeReg (n := .inLen) hp rfl (by decide)
  · rintro rfl
    exact step_writeReg (n := .frameLen) hp rfl (by decide)
  · rintro rfl
    exact step_writeReg (n := .crcStart) hp rfl (by decide)
  · rintro rfl
    exact step_writeReg (n := .crcLen) hp rfl (by decide)
  · rintro rfl
    exact step_writeReg (n := .keyLen) hp rfl (by decide)
  · fin_cases hm
    · exact step_writeReg_readReg (n := .inLen) hp rfl (by decide) fun _ => setWidth_low_half w
    · exact step_writeReg_readReg (n := .frameLen) hp rfl (by decide) fun _ => setWidth_low_half w
    · exact step_writeReg_readReg (n := .crcStart) hp rfl (by decide) fun _ => setWidth_low_half w
    · exact step_writeReg_readReg (n := .crcLen) hp rfl (by decide) fun _ => setWidth_low_half w
    · exact step_writeReg_readReg (n := .keyLen) hp rfl (by decide) fun _ => setWidth_low_byte w

/-! ### STATUS -/

/-- The fields of the STATUS word, bit by bit (10_state.md R28). -/
theorem statusWord_flags (s : State) :
    (statusWord s).getLsbD 0 = s.hdrValid ∧ (statusWord s).getLsbD 1 = s.ptValid ∧
    (statusWord s).getLsbD 2 = s.dataValid ∧ (statusWord s).getLsbD 3 = decide (s.fmt = .full) ∧
    (statusWord s).getLsbD 4 = decide (s.dsrc = .frame) := by
  unfold statusWord
  simp only [BitVec.getLsbD_append]
  refine ⟨by simp, by simp, by simp, ?_, ?_⟩
  · cases s.fmt <;> rfl
  · cases s.dsrc <;> rfl

/-- The same for the wider fields: each stands above the fields to its right (10_state.md R28). -/
theorem statusWord_fields (s : State) :
    (statusWord s).extractLsb' 5 3 = 0 ∧ (statusWord s).extractLsb' 8 4 = s.result ∧
    (statusWord s).extractLsb' 12 4 = s.detail ∧ (statusWord s).extractLsb' 24 8 = 0 := by
  unfold statusWord
  refine ⟨?reserved, ?result, ?detail, ?top⟩
  case reserved =>
    iterate 5 refine (BitVec.extractLsb'_append_eq_of_le (by decide)).trans ?_
    exact BitVec.extractLsb'_append_eq_right
  case result =>
    iterate 6 refine (BitVec.extractLsb'_append_eq_of_le (by decide)).trans ?_
    exact BitVec.extractLsb'_append_eq_right
  case detail =>
    iterate 7 refine (BitVec.extractLsb'_append_eq_of_le (by decide)).trans ?_
    exact BitVec.extractLsb'_append_eq_right
  case top =>
    iterate 9 refine (BitVec.extractLsb'_append_eq_of_le (by decide)).trans ?_
    exact BitVec.extractLsb'_eq_self

/-- Settles O19: the layout, and STATUS as a read-only register of the address map. -/
theorem statusHasItsLayout : Obligations.StatusHasItsLayout := by
  refine ⟨fun s => ?layout, statusWord_reset, fun s rest hp => step_readReg (n := .status) hp rfl,
    fun s w rest hp => step_writeReg (n := .status) hp rfl (by decide)⟩
  obtain ⟨h0, h1, h2, h3, h4⟩ := statusWord_flags s
  obtain ⟨h5, h8, h12, h24⟩ := statusWord_fields s
  exact ⟨h0, h1, h2, h3, h4, h5, h8, h12, statusWord_lastOp s, h24⟩

end Sys2Proof.Machine
end

section
/-!
SUPPORT. Each branch of the bodies of CLEAR, HEXDEC, PARSE, DECRYPT and the extractions, and the statements about these
commands (spec/41_frame_parser.md R161, R164, spec/42_decrypt.md R201 to R205, spec/43_extract.md R230 to R237,
spec/44_control.md R263).
-/

namespace Sys2Proof.Machine

open Sys2Proof.Safety

variable {s t : State} {i : Instr} {o : OutcomeName} {d : BitVec 4} {p r : Bytes} {x : Extraction}

/-! ### From the branch of a body to its command -/

/-- A command whose body ends in an error writes the outcome and its error flag after it (60_exceptions.md R283). -/
theorem exec_raise (h : bodyOf i (latchOp (opcodeOf i) s) = raise o d t) :
    exec i s = .next { t with
      result := outcomeCode o, detail := d, errflags := t.errflags ||| outcomeFlag o } :=
  exec_ended h

theorem exec_fault {f : Fault} (h : bodyOf i (latchOp (opcodeOf i) s) = .fault f) : exec i s = .fault f := by
  rw [exec_eq, runCommand, h, conclude]

/-! ### CLEAR -/

theorem headerZero_fields :
    headerZero.hdrL = 0 ∧ headerZero.hdrC = 0 ∧ headerZero.hdrM = 0 ∧ headerZero.hdrA = 0 ∧ headerZero.hdrVer = 0 ∧
      headerZero.hdrMed = 0 ∧ headerZero.hdrCi = 0 ∧ headerZero.hdrCc = 0 ∧ headerZero.hdrAcc = 0 ∧
      headerZero.hdrSn = 0 ∧ headerZero.snEnc = 0 ∧ headerZero.snTime = 0 ∧ headerZero.snSession = 0 ∧
      headerZero.payLen = 0 ∧ headerZero.trailer = 0 :=
  ⟨rfl, rfl, rfl, rfl, rfl, rfl, rfl, rfl, rfl, rfl, rfl, rfl, rfl, rfl, rfl⟩

/-- Settles O21: CLEAR is one update, which leaves the buffers as they are. -/
theorem clearZeroesTheDecodedState : Obligations.ClearZeroesTheDecodedState := by
  intro s
  have hbody : bodyOf .clear (latchOp (opcodeOf .clear) s) = finish 0 (clearDecoded (latchOp (opcodeOf .clear) s)) := rfl
  have ivZero (j : Fin 16) : (Vector.replicate 16 (0 : Byte))[j] = 0 := Vector.getElem_replicate j.isLt
  exact ⟨_, exec_finish hbody, rfl, headerZero_fields, ivZero, fun _ => byteAt_congr rfl rfl _⟩

/-! ### HEXDEC and PARSE -/

/-- What a HEXDEC of a text that decodes to `r` writes (41_frame_parser.md R161). -/
def ingested (r : Bytes) (s : State) : State :=
  { invalidate s with mem := Memory.setBytes s.mem (bufBase .frame) r,
                      frameLen := BitVec.ofNat 16 (s.inLen.toNat / 2) }

/-- What a PARSE of a frame of legal length writes (41_frame_parser.md R164). -/
def parsed (s : State) : State :=
  { invalidate s with hdr := parseHeader (frameString s), iv := deriveIV (frameString s), hdrValid := true }

theorem hexdecBody_long (h : 512 < s.inLen.toNat) : hexdecBody s = raise .parseError 3 (invalidate s) := by
  rw [hexdecBody_eq, if_pos h]

theorem hexdecBody_error (h : s.inLen.toNat ≤ 512) (hd : hexDecode (inText s) = .error d) :
    hexdecBody s = raise .parseError d (invalidate s) := by
  rw [hexdecBody_eq, if_neg (Nat.not_lt.2 h), hd]

theorem hexdecBody_ok (h : s.inLen.toNat ≤ 512) (hd : hexDecode (inText s) = .ok r) :
    hexdecBody s = finish 0 (ingested r s) := by
  rw [hexdecBody_eq, if_neg (Nat.not_lt.2 h), hd]
  rfl

theorem parseBody_long (h : 256 < s.frameLen.toNat) : parseBody s = raise .parseError 5 (invalidate s) := by
  rw [parseBody_eq, if_pos h]

theorem parseBody_short (h : s.frameLen.toNat < 19) : parseBody s = raise .parseError 4 (invalidate s) := by
  rw [parseBody_eq, if_neg (by omega), if_pos h]

theorem parseBody_ok (hlo : 19 ≤ s.frameLen.toNat) (hhi : s.frameLen.toNat ≤ 256) :
    parseBody s = finish 0 (parsed s) := by
  rw [parseBody_eq, if_neg (Nat.not_lt.2 hhi), if_neg (Nat.not_lt.2 hlo)]
  rfl

/-- A text that decodes has two characters a byte (41_frame_parser.md R160). -/
theorem hexDecode_inText_length (h : hexDecode (inText s) = .ok r) : r.length = s.inLen.toNat / 2 := by
  rw [hexDecode_length h, inText, bytesAt_length]

/-- Settles O23: the one branch of HEXDEC that stores, and the bytes of a stored string. -/
theorem hexdecStoresTheDecodedBytes : Obligations.HexdecStoresTheDecodedBytes := by
  intro s r hn hd
  have hbody : bodyOf .hexdec (latchOp (opcodeOf .hexdec) s) = finish 0 (ingested r (latchOp (opcodeOf .hexdec) s)) :=
    hexdecBody_ok hn hd
  exact ⟨_, exec_finish hbody, rfl, hexDecode_inText_length hd, fun _ hi => byteAt_setBytes_in (s := s) rfl hi,
    fun _ hx => byteAt_setBytes_out rfl rfl hx⟩

/-- Settles O24: the branches of HEXDEC and PARSE that raise, each after clearing the valid flags. -/
theorem parseErrorsClearOnlyTheValidFlags : Obligations.ParseErrorsClearOnlyTheValidFlags := by
  refine fun s => ⟨fun hn => ?_, fun hn d hd => ?_, fun hn => ?_, fun hn => ?_⟩
  · exact exec_raise (i := .hexdec) (hexdecBody_long (s := latchOp 0x01 s) hn)
  · exact exec_raise (i := .hexdec) (hexdecBody_error (s := latchOp 0x01 s) hn hd)
  · exact exec_raise (i := .parse) (parseBody_long (s := latchOp 0x02 s) hn)
  · exact exec_raise (i := .parse) (parseBody_short (s := latchOp 0x02 s) hn)

/-! ### DECRYPT -/

section

theorem decryptBody_noHeader (hh : s.hdrValid = false) : decryptBody s = raise .sequenceError 1 s := by
  rw [decryptBody_eq, if_pos hh]

variable (hh : s.hdrValid = true)

include hh

theorem decryptBody_noKey (hk : s.keyLen = 0) : decryptBody s = raise .keyFormatError 1 s := by
  rw [decryptBody_eq, if_neg (Bool.not_eq_false _ ▸ hh), if_pos hk]

theorem decryptBody_badKey (h0 : s.keyLen ≠ 0) (hk : s.keyLen ≠ 16) : decryptBody s = raise .keyFormatError 2 s := by
  have h16 : s.keyLen.toNat ≠ 16 := fun h => hk (BitVec.eq_of_toNat_eq h)
  rw [decryptBody_eq, if_neg (Bool.not_eq_false _ ▸ hh), if_neg h0, if_pos h16]

variable (hk : s.keyLen = 16)

include hk

/-- Past the header and the key checks (42_decrypt.md R201). -/
theorem decryptBody_keyed :
    decryptBody s =
      if s.ptValid = true then finish 1 s
      else if s.hdr.payLen.toNat < 2 then raise .crcMismatch 2 s
      else if 239 < s.hdr.payLen.toNat then .fault .bufferOverrun
      else if payloadCrcOk (payloadOf s) then finish 0 (published (payloadOf s) s)
      else raise .crcMismatch 1 { s with pcrc := pcrcWord (payloadOf s) } := by
  have h0 : s.keyLen ≠ 0 := by rw [hk]; decide
  have h16 : ¬ s.keyLen.toNat ≠ 16 := by rw [hk]; decide
  rw [decryptBody_eq, if_neg (Bool.not_eq_false _ ▸ hh), if_neg h0, if_neg h16]
  rfl

theorem decryptBody_already (hv : s.ptValid = true) : decryptBody s = finish 1 s := by
  rw [decryptBody_keyed hh hk, if_pos hv]

variable (hv : s.ptValid = false)

include hv

theorem decryptBody_short (hn : s.hdr.payLen.toNat < 2) : decryptBody s = raise .crcMismatch 2 s := by
  rw [decryptBody_keyed hh hk, if_neg (Bool.eq_false_iff.1 hv), if_pos hn]

theorem decryptBody_overrun (hn : 239 < s.hdr.payLen.toNat) : decryptBody s = .fault .bufferOverrun := by
  rw [decryptBody_keyed hh hk, if_neg (Bool.eq_false_iff.1 hv), if_neg (by omega), if_pos hn]

variable (hlo : 2 ≤ s.hdr.payLen.toNat) (hhi : s.hdr.payLen.toNat ≤ 239)

include hlo hhi

theorem decryptBody_ok (hok : payloadCrcOk (payloadOf s) = true) :
    decryptBody s = finish 0 (published (payloadOf s) s) := by
  rw [decryptBody_keyed hh hk, if_neg (Bool.eq_false_iff.1 hv), if_neg (by omega), if_neg (by omega), if_pos hok]

theorem decryptBody_mismatch (hbad : payloadCrcOk (payloadOf s) = false) :
    decryptBody s = raise .crcMismatch 1 { s with pcrc := pcrcWord (payloadOf s) } := by
  rw [decryptBody_keyed hh hk, if_neg (Bool.eq_false_iff.1 hv), if_neg (by omega), if_neg (by omega),
    if_neg (Bool.eq_false_iff.1 hbad)]

end

/-- The payload CRC passes when the computed value is the two leading bytes, little-endian (40_crc.md R137). -/
theorem payloadCrcOk_iff : payloadCrcOk p = true ↔ wmbus16 (p.drop 2) = byteOf p 1 ++ byteOf p 0 :=
  beq_iff_eq

theorem payloadCrcOk_eq_false : payloadCrcOk p = false ↔ wmbus16 (p.drop 2) ≠ byteOf p 1 ++ byteOf p 0 := by
  rw [← Bool.not_eq_true, payloadCrcOk_iff]

/-- Settles O30: the one branch of DECRYPT that stores, and the bytes of a stored string. -/
theorem decryptPublishesAMatchingPlaintext : Obligations.DecryptPublishesAMatchingPlaintext := by
  rintro s p rfl hh hk hv hlo hhi hcrc
  have hbody : bodyOf .decrypt (latchOp (opcodeOf .decrypt) s) = finish 0 (published (payloadOf s) (latchOp 0x03 s)) :=
    decryptBody_ok (s := latchOp 0x03 s) hh (BitVec.eq_of_toNat_eq hk) hv hlo (Nat.le_trans hhi (by decide))
      (payloadCrcOk_iff.2 hcrc)
  exact ⟨_, exec_finish hbody, rfl, payloadOf_length s, fun _ hi => byteAt_setBytes_in (s := s) rfl hi,
    fun _ hx => byteAt_setBytes_out rfl rfl hx⟩

/-- Settles O31: the branches of DECRYPT that raise. -/
theorem decryptFailuresPublishNothing : Obligations.DecryptFailuresPublishNothing := by
  rintro s p rfl
  refine ⟨fun hh => ?noHeader, fun hh hk => ?noKey, fun hh h0 hk => ?badKey, fun hh hk hv hn => ?short,
    fun hh hk hv hlo hhi hcrc => ?mismatch⟩
  case noHeader => exact exec_raise (i := .decrypt) (decryptBody_noHeader (s := latchOp 0x03 s) hh)
  case noKey => exact exec_raise (i := .decrypt) (decryptBody_noKey (s := latchOp 0x03 s) hh hk)
  case badKey => exact exec_raise (i := .decrypt) (decryptBody_badKey (s := latchOp 0x03 s) hh h0 hk)
  case short => exact exec_raise (i := .decrypt) (decryptBody_short (s := latchOp 0x03 s) hh hk hv hn)
  case mismatch =>
    exact exec_raise (i := .decrypt) (decryptBody_mismatch (s := latchOp 0x03 s) hh hk hv hlo
      (Nat.le_trans hhi (by decide)) (payloadCrcOk_eq_false.2 hcrc))

/-- Settles O32: past the key checks, a DECRYPT with PT_VALID finishes in OK(1) at once. -/
theorem decryptOfADecryptedFrameIsANoOp : Obligations.DecryptOfADecryptedFrameIsANoOp :=
  fun s hh hk hv => exec_finish (i := .decrypt) (decryptBody_already (s := latchOp 0x03 s) hh hk hv)

/-! ### Extraction -/

theorem extractBody_noPlaintext (hv : s.ptValid = false) : extractBody s = raise .sequenceError 2 s := by
  rw [extractBody_eq, if_pos hv]

theorem extractBody_overrun (hv : s.ptValid = true) (hn : 256 < s.ptLen.toNat) :
    extractBody s = .fault .bufferOverrun := by
  rw [extractBody_eq, if_neg (Bool.not_eq_false _ ▸ hv), if_pos hn]

theorem extractFrom_ok {src : Source} (hx : extractFields p = .ok x) :
    extractFrom src p s = finish 0 (storeExtraction x src s) := by
  rw [extractFrom, hx]

theorem extractFrom_error {src : Source} (hx : extractFields p = .error d) :
    extractFrom src p s = raise .noData d s := by
  rw [extractFrom, hx]

theorem extractBody_read (hv : s.ptValid = true) (hn : s.ptLen.toNat ≤ 256) :
    extractBody s = extractFrom .pt (plainText s) (invalidateData s) := by
  rw [extractBody_eq, if_neg (Bool.not_eq_false _ ▸ hv), if_neg (Nat.not_lt.2 hn)]

theorem extractDirectBody_long (hn : 256 < s.frameLen.toNat) : extractDirectBody s = raise .rangeError 2 s := by
  rw [extractDirectBody_eq, if_pos hn]

theorem extractDirectBody_read (hn : s.frameLen.toNat ≤ 256) :
    extractDirectBody s = extractFrom .frame (frameString s) (invalidateData s) := by
  rw [extractDirectBody_eq, if_neg (Nat.not_lt.2 hn)]

/-- Settles O36: EXTRACT's checks, then the extraction of PT. -/
theorem extractWritesTheTupleOfThePlaintext : Obligations.ExtractWritesTheTupleOfThePlaintext := by
  refine fun s => ⟨fun x hv hn hx => ?tuple, fun d hv hn hx => ?noData, fun hv => ?noPlaintext⟩
  case tuple =>
    exact exec_finish (i := .extract) ((extractBody_read (s := latchOp 0x04 s) hv hn).trans (extractFrom_ok hx))
  case noData =>
    exact exec_raise (i := .extract) ((extractBody_read (s := latchOp 0x04 s) hv hn).trans (extractFrom_error hx))
  case noPlaintext => exact exec_raise (i := .extract) (extractBody_noPlaintext (s := latchOp 0x04 s) hv)

/-- Settles O37: EXTRACT_DIRECT's check, then the extraction of FRAME. -/
theorem extractDirectWritesTheTupleOfTheFrame : Obligations.ExtractDirectWritesTheTupleOfTheFrame := by
  refine fun s => ⟨fun x hn hx => ?tuple, fun d hn hx => ?noData, fun hn => ?tooLong⟩
  case tuple =>
    exact exec_finish (i := .extractDirect)
      ((extractDirectBody_read (s := latchOp 0x05 s) hn).trans (extractFrom_ok hx))
  case noData =>
    exact exec_raise (i := .extractDirect)
      ((extractDirectBody_read (s := latchOp 0x05 s) hn).trans (extractFrom_error hx))
  case tooLong => exact exec_raise (i := .extractDirect) (extractDirectBody_long (s := latchOp 0x05 s) hn)

/-- Settles O33: the branches of DECRYPT and EXTRACT that read past a buffer. -/
theorem impossibleLengthsFault : Obligations.ImpossibleLengthsFault :=
  ⟨fun s hh hk hv hn => exec_fault (i := .decrypt) (decryptBody_overrun (s := latchOp 0x03 s) hh hk hv hn),
    fun s hv hn => exec_fault (i := .extract) (extractBody_overrun (s := latchOp 0x04 s) hv hn)⟩

theorem extractFields_short (h : p.length < 3) : extractFields p = .error 2 :=
  if_pos h

theorem extractFields_compact (h : 23 ≤ p.length) (hc : byteOf p 2 = 0x79) : extractFields p = .ok (extractCompact p) := by
  rw [extractFields, if_neg (by omega), ciCompact, if_pos hc, if_neg (Nat.not_lt.2 h)]

theorem extractFields_compact_short (h3 : 3 ≤ p.length) (h : p.length < 23) (hc : byteOf p 2 = 0x79) :
    extractFields p = .error 3 := by
  rw [extractFields, if_neg (Nat.not_lt.2 h3), ciCompact, if_pos hc, if_pos h]

theorem extractFields_full (h : 3 ≤ p.length) (hc : byteOf p 2 = 0x78) : extractFields p = .ok (extractFull p) := by
  have h9 : byteOf p 2 ≠ ciCompact := by rw [hc]; decide
  rw [extractFields, if_neg (Nat.not_lt.2 h), if_neg h9, ciFull, if_pos hc]

theorem extractFields_unknown (h : 3 ≤ p.length) (h9 : byteOf p 2 ≠ 0x79) (h8 : byteOf p 2 ≠ 0x78) :
    extractFields p = .error 1 := by
  rw [extractFields, if_neg (Nat.not_lt.2 h), ciCompact, if_neg h9, ciFull, if_neg h8]

/-- Bit `j` of FOUND belongs to pattern `j` (43_extract.md R230). -/
theorem getLsbD_four_bools (b3 b2 b1 b0 : Bool) :
    (BitVec.ofBool b3 ++ BitVec.ofBool b2 ++ BitVec.ofBool b1 ++ BitVec.ofBool b0).getLsbD 0 = b0 ∧
    (BitVec.ofBool b3 ++ BitVec.ofBool b2 ++ BitVec.ofBool b1 ++ BitVec.ofBool b0).getLsbD 1 = b1 ∧
    (BitVec.ofBool b3 ++ BitVec.ofBool b2 ++ BitVec.ofBool b1 ++ BitVec.ofBool b0).getLsbD 2 = b2 ∧
    (BitVec.ofBool b3 ++ BitVec.ofBool b2 ++ BitVec.ofBool b1 ++ BitVec.ofBool b0).getLsbD 3 = b3 := by
  revert b3 b2 b1 b0
  decide

/-- Settles O35: the five branches of the extraction, and what the two shapes of payload give. -/
theorem extractReadsBothPayloadShapes : Obligations.ExtractReadsBothPayloadShapes := by
  refine fun p => ⟨extractFields_short, extractFields_unknown, extractFields_compact_short, extractFields_compact,
    fun h hc => ⟨extractFull p, extractFields_full h hc, rfl, ?_⟩⟩
  obtain ⟨f0, f1, f2, f3⟩ := getLsbD_four_bools (fieldFound p patternPMinus) (fieldFound p patternPPlus)
    (fieldFound p patternAMinus) (fieldFound p patternAPlus)
  exact ⟨rfl, f0, rfl, f1, rfl, f2, rfl, f3⟩

end Sys2Proof.Machine
end

section
/-!
SUPPORT. Each branch of the bodies of the CRC commands, and the five statements about them and about what commands do
right after reset (spec/40_crc.md R137 to R142, spec/70_reset_and_hazards.md R314).
-/

namespace Sys2Proof.Machine

open Sys2Proof.Safety

variable {s : State} {i : Instr}

/-! ### The CRC window -/

/-- A command that reads the CRC window refuses a frame above 256 bytes (40_crc.md R138). -/
theorem readWindow_long (k : Bytes → BodyEnd) (h : 256 < s.frameLen.toNat) : readWindow s k = raise .rangeError 2 s := by
  rw [readWindow_eq, if_pos h]

theorem readWindow_outside (k : Bytes → BodyEnd) (hn : s.frameLen.toNat ≤ 256)
    (h : s.frameLen.toNat < s.crcStart.toNat + s.crcLen.toNat) : readWindow s k = raise .rangeError 1 s := by
  rw [readWindow_eq, if_neg (Nat.not_lt.2 hn), if_pos h]

theorem readWindow_inside (k : Bytes → BodyEnd) (hn : s.frameLen.toNat ≤ 256)
    (h : s.crcStart.toNat + s.crcLen.toNat ≤ s.frameLen.toNat) : readWindow s k = k (windowString s) := by
  rw [readWindow_eq, if_neg (Nat.not_lt.2 hn), if_neg (Nat.not_lt.2 h)]

/-- The three window commands start with the window check (40_crc.md R138). -/
theorem body_reads_window (hi : i ∈ [Instr.crcCcitt, Instr.crcWmbus, Instr.checkPcrc]) :
    ∃ k : State → Bytes → BodyEnd, ∀ s, bodyOf i s = readWindow s (k s) := by
  fin_cases hi <;> exact ⟨_, fun _ => rfl⟩

/-- Settles O39: whatever a window command does with its window, it first refuses one outside the frame. -/
theorem crcWindowOutsideTheFrameIsRefused : Obligations.CrcWindowOutsideTheFrameIsRefused := by
  intro s i hi
  obtain ⟨k, hk⟩ := body_reads_window hi
  refine ⟨fun hn => ?_, fun hn hw => ?_⟩
  · exact exec_raise ((hk _).trans (readWindow_long (s := latchOp (opcodeOf i) s) _ hn))
  · exact exec_raise ((hk _).trans (readWindow_outside (s := latchOp (opcodeOf i) s) _ hn hw))

/-- Settles O38: both commands finish with the CRC of the window. -/
theorem crcCommandsWriteTheWindowCrc : Obligations.CrcCommandsWriteTheWindowCrc :=
  fun s hn hw => ⟨exec_finish (i := .crcCcitt) (readWindow_inside (s := latchOp 0x08 s) _ hn hw),
    exec_finish (i := .crcWmbus) (readWindow_inside (s := latchOp 0x09 s) _ hn hw)⟩

/-! ### CHECK_PCRC -/

section

variable (hn : s.frameLen.toNat ≤ 256) (hw : s.crcStart.toNat + s.crcLen.toNat ≤ s.frameLen.toNat)

include hn hw

theorem checkPcrcBody_short (h : s.crcLen.toNat < 2) : checkPcrcBody s = raise .rangeError 3 s := by
  rw [checkPcrcBody_eq, if_neg (Nat.not_lt.2 hn), if_neg (Nat.not_lt.2 hw), if_pos h]

theorem checkPcrcBody_ok (h : 2 ≤ s.crcLen.toNat) (hok : payloadCrcOk (windowString s) = true) :
    checkPcrcBody s = finish 0 { s with
      crcResult := payloadCrcComputed (windowString s), pcrc := pcrcWord (windowString s) } := by
  rw [checkPcrcBody_eq, if_neg (Nat.not_lt.2 hn), if_neg (Nat.not_lt.2 hw), if_neg (Nat.not_lt.2 h), if_pos hok]

theorem checkPcrcBody_mismatch (h : 2 ≤ s.crcLen.toNat) (hbad : payloadCrcOk (windowString s) = false) :
    checkPcrcBody s = raise .crcMismatch 1 { s with
      crcResult := payloadCrcComputed (windowString s), pcrc := pcrcWord (windowString s) } := by
  rw [checkPcrcBody_eq, if_neg (Nat.not_lt.2 hn), if_neg (Nat.not_lt.2 hw), if_neg (Nat.not_lt.2 h),
    if_neg (Bool.eq_false_iff.1 hbad)]

end

/-- Settles O41: past the window check, CHECK_PCRC is the payload CRC validator over the window. -/
theorem checkPcrcValidatesTheWindow : Obligations.CheckPcrcValidatesTheWindow := by
  rintro s w rfl hn hw
  refine ⟨fun h2 hcrc => ?ok, fun h2 hcrc => ?mismatch, fun h2 => ?short⟩
  case ok =>
    exact exec_finish (i := .checkPcrc) (checkPcrcBody_ok (s := latchOp 0x0B s) hn hw h2 (payloadCrcOk_iff.2 hcrc))
  case mismatch =>
    exact exec_raise (i := .checkPcrc)
      (checkPcrcBody_mismatch (s := latchOp 0x0B s) hn hw h2 (payloadCrcOk_eq_false.2 hcrc))
  case short => exact exec_raise (i := .checkPcrc) (checkPcrcBody_short (s := latchOp 0x0B s) hn hw h2)

/-! ### CHECK_TRAILER -/

/-- A 16-bit value is two bytes exactly when they are its high and its low byte (00_scope.md R10). -/
theorem append_eq_half {hi lo : Byte} {c : Half} :
    hi ++ lo = c ↔ lo = c.extractLsb' 0 8 ∧ hi = c.extractLsb' 8 8 := by
  constructor
  · rintro rfl
    exact ⟨BitVec.extractLsb'_append_eq_right.symm, BitVec.extractLsb'_append_eq_left.symm⟩
  · rintro ⟨rfl, rfl⟩
    exact le16_le16Bytes c

/-- The trailer of a frame of `n` bytes, as CHECK_TRAILER reads it (40_crc.md R132, R141). -/
theorem le16_trailer {n : Nat} (h : 2 ≤ n) :
    le16 (bytesAt s (bufBase .frame + (n - 2)) 2) 0 = byteAt s (0x600 + n - 1) ++ byteAt s (0x600 + n - 2) := by
  rw [le16, byteOf_bytesAt s _ (show 0 + 1 < 2 by decide), byteOf_bytesAt s _ (show 0 < 2 by decide)]
  have hlast : bufBase .frame + (n - 2) + (0 + 1) = 0x600 + n - 1 := by simp only [bufBase]; omega
  have hfirst : bufBase .frame + (n - 2) + 0 = 0x600 + n - 2 := by simp only [bufBase]; omega
  rw [hlast, hfirst]

theorem checkTrailerBody_long (h : 256 < s.frameLen.toNat) : checkTrailerBody s = raise .rangeError 2 s := by
  rw [checkTrailerBody_eq, if_pos h]

theorem checkTrailerBody_short (h : s.frameLen.toNat < 3) : checkTrailerBody s = raise .rangeError 3 s := by
  rw [checkTrailerBody_eq, if_neg (by omega), if_pos h]

section

variable {c : Half} (hc : c = ccitt16 (bytesAt s 0x601 (s.frameLen.toNat - 3))) (hlo : 3 ≤ s.frameLen.toNat)
  (hhi : s.frameLen.toNat ≤ 256)

include hc hlo hhi

theorem checkTrailerBody_compared :
    checkTrailerBody s =
      if byteAt s (0x600 + s.frameLen.toNat - 2) = c.extractLsb' 0 8 ∧
          byteAt s (0x600 + s.frameLen.toNat - 1) = c.extractLsb' 8 8 then
        finish 0 { s with crcResult := c }
      else raise .trxCrcMismatch 1 { s with crcResult := c } := by
  have hmid : ccitt16 (bytesAt s (bufBase .frame + 1) (s.frameLen.toNat - 3)) = c := hc.symm
  rw [checkTrailerBody_eq, if_neg (Nat.not_lt.2 hhi), if_neg (Nat.not_lt.2 hlo), hmid, le16_trailer (by omega)]
  simp only [append_eq_half]

end

/-- Settles O40: the two range checks, and the comparison of the trailer's bytes with those of the CRC. -/
theorem checkTrailerComparesTheLastTwoBytes : Obligations.CheckTrailerComparesTheLastTwoBytes := by
  rintro s n c rfl hc
  refine ⟨fun hlo hhi h0 h1 => ?equal, fun hlo hhi hne => ?differs, fun hn => ?tooLong, fun hn => ?short⟩
  case equal =>
    exact exec_finish (i := .checkTrailer)
      ((checkTrailerBody_compared (s := latchOp 0x0A s) hc hlo hhi).trans (if_pos ⟨h0, h1⟩))
  case differs =>
    exact exec_raise (i := .checkTrailer)
      ((checkTrailerBody_compared (s := latchOp 0x0A s) hc hlo hhi).trans (if_neg hne))
  case tooLong => exact exec_raise (i := .checkTrailer) (checkTrailerBody_long (s := latchOp 0x0A s) hn)
  case short => exact exec_raise (i := .checkTrailer) (checkTrailerBody_short (s := latchOp 0x0A s) hn)

/-! ### Right after reset -/

/-- Settles O54: the reset state is concrete, and no command run on it reads a byte of a buffer, so each of the thirteen
rows evaluates. -/
theorem commandsRightAfterReset : Obligations.CommandsRightAfterReset := by
  intro i r d c hrow
  fin_cases hrow <;> exact ⟨_, rfl, rfl, rfl, rfl, rfl⟩

end Sys2Proof.Machine
end

section
/-!
SUPPORT. The inverse of the S-box's affine map, the keystream byte by byte, the injectivity of WMBUS16, and the five
statements about the pure functions (spec/42_decrypt.md R191, R198, R199, R206, spec/40_crc.md R131, R133, R135).
-/

namespace Sys2Proof.Machine

open Sys2Proof.Safety

variable {key iv14 : Bytes} {b : Byte} {p : Bytes} {k : Nat}

/-! ### The S-box and the known answers -/

/-- The inverse of the affine map A of the S-box, with A(0x05) = 0 (42_decrypt.md R191). -/
def sboxAffineInverse (a : Byte) : Byte :=
  a.rotateRight 2 ^^^ a.rotateRight 5 ^^^ a.rotateRight 7 ^^^ 0x05

theorem sboxAffine_sboxAffineInverse : ∀ a : Byte, sboxAffine (sboxAffineInverse a) = a := by
  decide +kernel

/-- Each of the 255 entries of the table, freed of the affine map, is the inverse of its index (42_decrypt.md R191). -/
theorem gfMul_sboxAffineInverse_sbox : ∀ a : Byte, a ≠ 0 → gfMul a (sboxAffineInverse (sbox a)) = 1 := by
  decide +kernel

/-- Settles O26: what stands in the table under the affine map is the inverse. -/
theorem sboxIsTheAffineMapOfTheInverse : Obligations.SboxIsTheAffineMapOfTheInverse :=
  ⟨by decide, fun a ha => ⟨sboxAffineInverse (sbox a), gfMul_sboxAffineInverse_sbox a ha,
    (sboxAffine_sboxAffineInverse _).symm⟩⟩

/-- Settles O27: closed evaluations of the cipher and of the two CRCs. -/
theorem aesAndCrcKnownAnswers : Obligations.AesAndCrcKnownAnswers := by
  refine ⟨?_, ?_, ?_, ?_, rfl, rfl⟩ <;> decide +kernel

/-! ### Counter mode -/

/-- Byte 16k+j of blocks of 16 bytes one after another is byte j of block k. -/
theorem byteOf_flatMap_blocks {f : Nat → Bytes} (hf : ∀ k, (f k).length = 16) {m k j : Nat} (hk : k < m) (hj : j < 16) :
    byteOf ((List.range m).flatMap f) (16 * k + j) = byteOf (f k) j := by
  induction m with
  | zero => exact absurd hk (Nat.not_lt_zero k)
  | succ m ih =>
    have hlen : ((List.range m).flatMap f).length = 16 * m := by simp [List.length_flatMap, hf, Nat.mul_comm]
    rw [List.range_succ, List.flatMap_append, List.flatMap_singleton]
    unfold byteOf at ih ⊢
    by_cases hkm : k = m
    · rw [List.getD_append_right _ _ _ _ (by omega), hlen, hkm, Nat.add_sub_cancel_left]
    · rw [List.getD_append _ _ _ _ (by omega)]
      exact ih (by omega)

/-- Keystream byte 16k+j is byte j of the encrypted counter block k (42_decrypt.md R199). -/
theorem byteOf_keystream (hkey : key.length = 16) {n k j : Nat} (hj : j < 16) (hn : 16 * k + j < n) :
    byteOf (keystream key iv14 n) (16 * k + j) = byteOf (aes128Encrypt key (counterBlock iv14 k)) j :=
  byteOf_flatMap_blocks (fun _ => aes128Encrypt_length hkey _) (by omega) hj

/-- Settles O28: CtrCrypt is the bytewise xor with the keystream. -/
theorem ctrCryptXorsTheKeystream : Obligations.CtrCryptXorsTheKeystream := by
  intro key iv14 c hkey _
  refine ⟨ctrCrypt_length hkey iv14 c, fun k j hj hn => ?_⟩
  have hks : 16 * k + j < (keystream key iv14 c.length).length := by
    rw [keystream_length hkey]
    omega
  rw [ctrCrypt, byteOf_xorBytes hn hks, byteOf_keystream hkey hj hn]
  rfl

/-- Xor with the same string twice changes nothing. -/
theorem xorBytes_xorBytes_cancel : ∀ {a ks : Bytes}, a.length ≤ ks.length → xorBytes (xorBytes a ks) ks = a
  | [], _, _ => by simp [xorBytes]
  | _ :: _, [], h => absurd h (by simp)
  | x :: a, y :: ks, h => by
    have ih := xorBytes_xorBytes_cancel (a := a) (ks := ks) (Nat.le_of_succ_le_succ h)
    have hx : x ^^^ y ^^^ y = x := by rw [BitVec.xor_assoc, BitVec.xor_self, BitVec.xor_zero]
    exact congrArg₂ List.cons hx ih

/-- Settles O29: both runs xor with the same keystream. -/
theorem ctrCryptIsItsOwnInverse : Obligations.CtrCryptIsItsOwnInverse := by
  intro key iv14 c hkey
  have hlen := ctrCrypt_length hkey iv14 c
  have hks : c.length ≤ (keystream key iv14 c.length).length := by
    rw [keystream_length hkey]
    omega
  rw [ctrCrypt, hlen, ctrCrypt, xorBytes_xorBytes_cancel hks]

/-! ### WMBUS16 loses nothing -/

/-- The polynomial brings in bit 0 exactly when a 1 is shifted out (40_crc.md R133). -/
theorem wmbusBit_low (x : Half) : (wmbusBit x).getLsbD 0 = x.getLsbD 15 := by
  unfold wmbusBit
  split_ifs with h
  · rw [BitVec.getLsbD_xor, h]
    simp
  · rw [Bool.eq_false_iff.2 h]
    simp

theorem shiftLeft_one_inj {x y : Half} (htop : x.getLsbD 15 = y.getLsbD 15) (h : x <<< 1 = y <<< 1) : x = y := by
  refine BitVec.eq_of_getLsbD_eq fun j hj => ?_
  by_cases hj15 : j = 15
  · rwa [hj15]
  · have hbit := congrArg (fun v : Half => v.getLsbD (j + 1)) h
    simpa [BitVec.getLsbD_shiftLeft, hj, show j + 1 < 16 by omega] using hbit

theorem wmbusBit_injective : Function.Injective wmbusBit := by
  intro x y h
  have htop : x.getLsbD 15 = y.getLsbD 15 := by rw [← wmbusBit_low, h, wmbusBit_low]
  refine shiftLeft_one_inj htop ?_
  unfold wmbusBit at h
  rw [htop] at h
  split_ifs at h
  · exact BitVec.xor_left_inj _ |>.1 h
  · exact h

/-- Different registers stay different over the same byte. -/
theorem wmbusByte_injective_crc (b : Byte) : Function.Injective (wmbusByte · b) := by
  intro x y h
  exact (BitVec.xor_left_inj _).1 (wmbusBit_injective.iterate 8 h)

/-- Different bytes make the same register different. -/
theorem wmbusByte_injective_byte (crc : Half) : Function.Injective (wmbusByte crc) := by
  intro x y h
  have hshift := (BitVec.xor_right_inj _).1 (wmbusBit_injective.iterate 8 h)
  refine BitVec.eq_of_getLsbD_eq fun j hj => ?_
  have hbit := congrArg (fun v : Half => v.getLsbD (j + 8)) hshift
  simpa [BitVec.getLsbD_shiftLeft, show j + 8 < 16 by omega, show j < 16 by omega] using hbit

theorem foldl_wmbusByte_injective (l : Bytes) : Function.Injective (l.foldl wmbusByte ·) := by
  intro x y h
  induction l generalizing x y with
  | nil => exact h
  | cons c l ih => exact wmbusByte_injective_crc c (ih h)

/-- One changed byte changes the register after every string that follows it. -/
theorem foldl_wmbusByte_set_ne {l : Bytes} {k : Nat} (crc : Half) (hk : k < l.length) (hb : b ≠ byteOf l k) :
    (l.set k b).foldl wmbusByte crc ≠ l.foldl wmbusByte crc := by
  induction l generalizing k crc with
  | nil => exact absurd hk (Nat.not_lt_zero k)
  | cons c l ih =>
    cases k with
    | zero => exact fun h => hb (wmbusByte_injective_byte crc (foldl_wmbusByte_injective l h))
    | succ k => exact ih _ (Nat.lt_of_succ_lt_succ hk) hb

theorem wmbus16_set_ne {l : Bytes} (hk : k < l.length) (hb : b ≠ byteOf l k) : wmbus16 (l.set k b) ≠ wmbus16 l :=
  fun h => foldl_wmbusByte_set_ne 0 hk hb ((BitVec.xor_left_inj _).1 h)

/-! ### One changed byte of a payload -/

theorem byteOf_set_self (hk : k < p.length) : byteOf (p.set k b) k = b := by
  simp [byteOf, hk]

theorem byteOf_set_ne {j : Nat} (h : j ≠ k) : byteOf (p.set k b) j = byteOf p j := by
  simp [byteOf, List.getElem?_set_ne h.symm]

theorem byteOf_drop (p : Bytes) (n j : Nat) : byteOf (p.drop n) j = byteOf p (n + j) := by
  simp [byteOf]

/-- A changed byte of the CRC field changes the expected value (40_crc.md R137). -/
theorem payloadCrcExpected_set_ne (hk : k < p.length) (h2 : k < 2) (hb : b ≠ byteOf p k) :
    payloadCrcExpected (p.set k b) ≠ payloadCrcExpected p := by
  intro h
  obtain ⟨hlo, hhi⟩ := append_eq_half.1 h
  obtain ⟨hlo', hhi'⟩ := append_eq_half.1 (rfl : payloadCrcExpected p = _)
  have hnew := byteOf_set_self (b := b) hk
  interval_cases k
  · exact hb (hnew.symm.trans (hlo.trans hlo'.symm))
  · exact hb (hnew.symm.trans (hhi.trans hhi'.symm))

/-- A changed byte behind the CRC field changes the computed value (40_crc.md R137). -/
theorem payloadCrcComputed_set_ne (hk : k < p.length) (h2 : 2 ≤ k) (hb : b ≠ byteOf p k) :
    payloadCrcComputed (p.set k b) ≠ payloadCrcComputed p := by
  have hdrop : (p.set k b).drop 2 = (p.drop 2).set (k - 2) b := by rw [List.drop_set, if_neg (Nat.not_lt.2 h2)]
  have hbyte : b ≠ byteOf (p.drop 2) (k - 2) := by rwa [byteOf_drop, Nat.add_sub_cancel' h2]
  rw [payloadCrcComputed, hdrop]
  exact wmbus16_set_ne (by rw [List.length_drop]; omega) hbyte

/-- One changed byte moves one of the two values that the validator compares, and not the other (42_decrypt.md R206). -/
theorem payloadCrcOk_set (hk : k < p.length) (hb : b ≠ byteOf p k) (hok : payloadCrcOk p = true) :
    payloadCrcOk (p.set k b) = false := by
  have heq : payloadCrcComputed p = payloadCrcExpected p := beq_iff_eq.1 hok
  refine beq_eq_false_iff_ne.2 ?_
  by_cases h2 : k < 2
  · have hkept : payloadCrcComputed (p.set k b) = payloadCrcComputed p := by
      rw [payloadCrcComputed, List.drop_set_of_lt h2, payloadCrcComputed]
    rw [hkept, heq]
    exact (payloadCrcExpected_set_ne hk h2 hb).symm
  · have hkept : payloadCrcExpected (p.set k b) = payloadCrcExpected p := by
      rw [payloadCrcExpected, le16, byteOf_set_ne (by omega), byteOf_set_ne (by omega), payloadCrcExpected, le16]
    rw [hkept, ← heq]
    exact payloadCrcComputed_set_ne hk (Nat.not_lt.1 h2) hb

/-- Settles O42: WMBUS16 is injective in each byte, and the CRC field is compared as it stands. -/
theorem anyChangedByteBreaksThePayloadCrc : Obligations.AnyChangedByteBreaksThePayloadCrc :=
  fun _ _ _ _ hk hb hok => payloadCrcOk_set hk hb hok

end Sys2Proof.Machine
end

section
/-!
SUPPORT. A pipeline as its stages run one command at a time, PROCESS_BIN as one case distinction on the frame and the key,
and the statements about what the pipelines do (spec/44_control.md R261, R262, R264).
-/

namespace Sys2Proof.Machine

open Sys2Proof.Safety

variable {s t : State} {o : OutcomeName} {d : BitVec 4} {i : Instr} {p r : Bytes} {x : Extraction}

/-! ### Stages one command at a time -/

/-- The bodies of a nonempty list of commands, each run only where the one before ended OK (44_control.md R261). -/
def stagesBody (i : Instr) : List Instr → State → BodyEnd
  | [] => bodyOf i
  | j :: js => andThen (bodyOf i) (stagesBody j js)

section

variable {f : State → BodyEnd}

/-- Recording an outcome forgets the one that stood there before the body. -/
theorem conclude_blind (hf : OutcomeBlind f) (l : Byte) (e : Word) (r r' d d' : BitVec 4) (s : State) :
    conclude (f (withOutcome l r d e s)) = conclude (f (withOutcome l r' d' e s)) := by
  rw [hf, hf]
  cases f s <;> rfl

/-- LAST_OP may as well be latched after the command as before it. -/
theorem withLastOp_conclude (hf : OutcomeBlind f) (l op : Byte) (r d : BitVec 4) (e : Word) (s : State) :
    withLastOp op (conclude (f (withOutcome l r d e s))) = conclude (f (withOutcome op r d e s)) := by
  rw [hf, hf]
  cases f s <;> rfl

end

theorem stagesBody_blind {is : List Instr} (hb : ∀ k ∈ i :: is, OutcomeBlind (bodyOf k)) :
    OutcomeBlind (stagesBody i is) := by
  induction is generalizing i with
  | nil => exact hb i List.mem_cons_self
  | cons k ks ih => exact andThen_blind (hb i List.mem_cons_self) (ih fun n hn => hb n (List.mem_cons_of_mem _ hn))

theorem runStages_singleton (i : Instr) (s : State) : runStages [i] s = exec i s := by
  unfold runStages
  cases exec i s with
  | next t => exact ite_self _
  | fault f => rfl
  | refused r => rfl

/-- A command that ends OK hands its state to the next one, and one that does not ends the run (44_control.md R261). -/
theorem runStages_ok {is : List Instr} (h : exec i s = .next t) (hr : t.result = 0) :
    runStages (i :: is) s = runStages is t := by
  rw [runStages, h]
  exact if_pos hr

theorem runStages_stop {is : List Instr} (h : exec i s = .next t) (hr : t.result ≠ 0) :
    runStages (i :: is) s = .next t := by
  rw [runStages, h]
  exact if_neg hr

theorem runStages_fault {is : List Instr} {f : Fault} (h : exec i s = .fault f) : runStages (i :: is) s = .fault f := by
  rw [runStages, h]

/-- Running commands whose bodies are blind to the outcome, and then latching `op`, is running their bodies as the stages
of one command of opcode `op` (44_control.md R261, R264). -/
theorem withLastOp_runStages (op : Byte) {is : List Instr} (hb : ∀ k ∈ i :: is, OutcomeBlind (bodyOf k)) (s : State) :
    withLastOp op (runStages (i :: is) s) = conclude (stagesBody i is (latchOp op s)) := by
  have hi := hb i List.mem_cons_self
  have hcarry (l : Byte) : bodyOf i (latchOp l s) = mapEnd (withOutcome l s.result s.detail s.errflags) (bodyOf i s) :=
    hi l s.result s.detail s.errflags s
  induction is generalizing i s with
  | nil =>
    rw [runStages_singleton, exec_eq]
    exact withLastOp_conclude hi (opcodeOf i) op s.result s.detail s.errflags s
  | cons k ks ih =>
    have hks : ∀ n ∈ k :: ks, OutcomeBlind (bodyOf n) := fun n hn => hb n (List.mem_cons_of_mem _ hn)
    have hop := hcarry op
    have hself := hcarry (opcodeOf i)
    cases hend : bodyOf i s with
    | fault e =>
      rw [hend] at hop hself
      rw [runStages_fault (exec_fault hself), stagesBody, andThen_fault hop]
      rfl
    | ended v o d =>
      rw [hend] at hop hself
      have hexec := exec_ended hself
      by_cases ho : o = .ok
      · subst ho
        rw [runStages_ok hexec rfl, ih hks _ (hks k List.mem_cons_self) fun l => hks k List.mem_cons_self l _ _ _ _,
          stagesBody, andThen_ok hop]
        have herr : s.errflags ||| outcomeFlag .ok = s.errflags := BitVec.or_zero
        have hlatch : latchOp op (recordOutcome .ok d (withOutcome (opcodeOf i) s.result s.detail s.errflags v)) =
            withOutcome op 0 d (s.errflags ||| outcomeFlag .ok) v := rfl
        rw [hlatch, herr]
        exact conclude_blind (stagesBody_blind hks) ..
      · have hr : outcomeCode o ≠ 0 := fun h => ho (outcomeCode_eq_zero.1 h)
        rw [runStages_stop hexec hr, stagesBody, andThen_stop hop ho]
        rfl

/-- The stages of the pipelines are blind to LAST_OP, the outcome and ERRFLAGS. -/
theorem stage_blind {k : Instr} (hk : k ∈ [Instr.hexdec, .parse, .decrypt, .extract]) : OutcomeBlind (bodyOf k) := by
  fin_cases hk
  · exact hexdecBody_blind
  · exact parseBody_blind
  · exact decryptBody_blind
  · exact extractBody_blind

/-- Settles O43: the bodies of the pipelines are the stages of the lists. -/
theorem pipelinesAreTheirStagesInOrder : Obligations.PipelinesAreTheirStagesInOrder :=
  fun s => ⟨(withLastOp_runStages 0x10 (fun _ hk => stage_blind hk) s).symm,
    (withLastOp_runStages 0x11 (fun _ hk => stage_blind (List.mem_cons_of_mem _ hk)) s).symm⟩

/-! ### PROCESS_BIN, as one case distinction -/

/-- The plaintext of a frame's payload under a key, the counter block taken from the header (42_decrypt.md R199, R201;
41_frame_parser.md R163). -/
def framePayload (key r : Bytes) : Bytes :=
  ctrCrypt key ((deriveIV r).toList.take 14) (slice r 17 (r.length - 2))

theorem slice_bytesAt (s : State) (a : Nat) {n lo hi : Nat} (h : hi ≤ n) :
    slice (bytesAt s a n) lo hi = bytesAt s (a + lo) (hi - lo) := by
  have hlen : (slice (bytesAt s a n) lo hi).length = (bytesAt s (a + lo) (hi - lo)).length := by
    rw [slice_length, bytesAt_length, bytesAt_length]
    omega
  refine List.ext_getElem hlen fun k _ _ => ?_
  simp [slice, bytesAt, Nat.add_assoc]

theorem parsed_payLen (s : State) : (parsed s).hdr.payLen.toNat = s.frameLen.toNat - 19 :=
  parseHeader_payLen s

/-- The payload of a parsed frame is what the frame has between header and trailer (30_encoding.md R99). -/
theorem cipherText_parsed (s : State) :
    cipherText (parsed s) = slice (frameString s) 17 (s.frameLen.toNat - 2) := by
  rw [frameString, slice_bytesAt s _ (Nat.sub_le ..), cipherText, parsed_payLen, Nat.sub_sub]
  rfl

theorem payloadOf_parsed (s : State) : payloadOf (parsed s) = framePayload (keyString s) (frameString s) := by
  rw [payloadOf, cipherText_parsed, framePayload, frameString_length]
  rfl

theorem framePayload_length (s : State) :
    (framePayload (keyString s) (frameString s)).length = s.frameLen.toNat - 19 := by
  rw [← payloadOf_parsed, payloadOf_length, parsed_payLen]

/-- What PT reads as once a parsed frame's payload is published there. -/
theorem plainText_published_parsed (s : State) :
    plainText (published (framePayload (keyString s) (frameString s)) (parsed s)) =
      framePayload (keyString s) (frameString s) :=
  plainText_published ((framePayload_length s).trans (parsed_payLen s).symm)

/-- EXTRACT of a payload just published (43_extract.md R236). -/
theorem extractBody_published (hhi : s.frameLen.toNat ≤ 256) :
    extractBody (published (framePayload (keyString s) (frameString s)) (parsed s)) =
      extractFrom .pt (framePayload (keyString s) (frameString s))
        (published (framePayload (keyString s) (frameString s)) (parsed s)) := by
  have hlen : (parsed s).hdr.payLen.toNat ≤ 256 := by
    rw [parsed_payLen]
    omega
  rw [extractBody_read rfl hlen, plainText_published_parsed]
  rfl

/-- PROCESS_BIN, by the frame's length, the key's length, the payload CRC and the extraction (44_control.md R262). -/
theorem processBinBody_eq (s : State) :
    processBinBody s =
      if 256 < s.frameLen.toNat then raise .parseError 5 (invalidate s)
      else if s.frameLen.toNat < 19 then raise .parseError 4 (invalidate s)
      else if s.keyLen = 0 then raise .keyFormatError 1 (parsed s)
      else if s.keyLen ≠ 16 then raise .keyFormatError 2 (parsed s)
      else if s.frameLen.toNat < 21 then raise .crcMismatch 2 (parsed s)
      else if payloadCrcOk (framePayload (keyString s) (frameString s)) then
        extractFrom .pt (framePayload (keyString s) (frameString s))
          (published (framePayload (keyString s) (frameString s)) (parsed s))
      else
        raise .crcMismatch 1
          { parsed s with pcrc := pcrcWord (framePayload (keyString s) (frameString s)) } := by
  have hpay := parsed_payLen s
  have hp := payloadOf_parsed s
  split_ifs with hlong hshort hk0 hk16 h21 hok
  · exact andThen_stop (parseBody_long hlong) (by decide)
  · exact andThen_stop (parseBody_short hshort) (by decide)
  all_goals
    refine (andThen_ok (parseBody_ok (Nat.not_lt.1 hshort) (Nat.not_lt.1 hlong))).trans ?_
  · exact andThen_stop (decryptBody_noKey (s := parsed s) rfl hk0) (by decide)
  · exact andThen_stop (decryptBody_badKey (s := parsed s) rfl hk0 hk16) (by decide)
  · exact andThen_stop (decryptBody_short (s := parsed s) rfl (not_not.1 hk16) rfl (by omega)) (by decide)
  · rw [← hp] at hok
    rw [andThen_ok (decryptBody_ok (s := parsed s) rfl (not_not.1 hk16) rfl (by omega) (by omega) hok), hp]
    exact extractBody_published (Nat.not_lt.1 hlong)
  · rw [← hp] at hok ⊢
    exact andThen_stop (decryptBody_mismatch (s := parsed s) rfl (not_not.1 hk16) rfl (by omega) (by omega)
      (Bool.eq_false_iff.2 hok)) (by decide)

/-- How PROCESS_BIN ends: with nothing published, or with a payload that passes its CRC published and extracted from. -/
theorem processBinBody_ended (h : processBinBody s = .ended t o d) :
    (o ≠ .ok ∧ (t = invalidate s ∨ ∃ c, t = { parsed s with pcrc := c })) ∨
    (21 ≤ s.frameLen.toNat ∧ s.frameLen.toNat ≤ 256 ∧ s.keyLen = 16 ∧
      payloadCrcOk (framePayload (keyString s) (frameString s)) = true ∧
      ((o = .noData ∧ t = published (framePayload (keyString s) (frameString s)) (parsed s)) ∨
        ∃ x, o = .ok ∧
          t = storeExtraction x .pt (published (framePayload (keyString s) (frameString s)) (parsed s)))) := by
  rw [processBinBody_eq] at h
  split_ifs at h with hlong hshort hk0 hk16 h21 hok
  · cases h
    exact .inl ⟨by decide, .inl rfl⟩
  · cases h
    exact .inl ⟨by decide, .inl rfl⟩
  · cases h
    exact .inl ⟨by decide, .inr ⟨_, rfl⟩⟩
  · cases h
    exact .inl ⟨by decide, .inr ⟨_, rfl⟩⟩
  · cases h
    exact .inl ⟨by decide, .inr ⟨_, rfl⟩⟩
  · refine .inr ⟨by omega, by omega, not_not.1 hk16, hok, ?_⟩
    rcases extractFrom_ended h with ⟨ho, -, -, ht⟩ | ⟨x, ho, -, -, ht⟩
    · exact .inl ⟨ho, ht⟩
    · exact .inr ⟨x, ho, ht⟩
  · cases h
    exact .inl ⟨by decide, .inr ⟨_, rfl⟩⟩

section

variable (hlo : 21 ≤ s.frameLen.toNat) (hhi : s.frameLen.toNat ≤ 256) (hk : s.keyLen = 16)

include hlo hhi hk

theorem processBinBody_ok (hok : payloadCrcOk (framePayload (keyString s) (frameString s)) = true)
    (hx : extractFields (framePayload (keyString s) (frameString s)) = .ok x) :
    processBinBody s =
      finish 0 (storeExtraction x .pt (published (framePayload (keyString s) (frameString s)) (parsed s))) := by
  have hk0 : s.keyLen ≠ 0 := by rw [hk]; decide
  rw [processBinBody_eq, if_neg (by omega), if_neg (by omega), if_neg hk0, if_neg (not_not.2 hk), if_neg (by omega),
    if_pos hok, extractFrom_ok hx]

theorem processBinBody_mismatch (hbad : payloadCrcOk (framePayload (keyString s) (frameString s)) = false) :
    processBinBody s =
      raise .crcMismatch 1 { parsed s with pcrc := pcrcWord (framePayload (keyString s) (frameString s)) } := by
  have hk0 : s.keyLen ≠ 0 := by rw [hk]; decide
  rw [processBinBody_eq, if_neg (by omega), if_neg (by omega), if_neg hk0, if_neg (not_not.2 hk), if_neg (by omega),
    if_neg (Bool.eq_false_iff.1 hbad)]

end

/-- Settles O45: the branch of PROCESS_BIN in which every stage succeeds. -/
theorem processBinDecodesATelegram : Obligations.ProcessBinDecodesATelegram := by
  rintro s r p x rfl hlo hhi hk rfl hok hx
  have hbody := processBinBody_ok (s := latchOp 0x11 s) hlo hhi hk hok hx
  exact ⟨_, exec_finish (i := .processBin) hbody, rfl, fun _ hi => byteAt_setBytes_in (s := s) rfl hi,
    fun _ hy => byteAt_setBytes_out rfl rfl hy⟩

/-! ### PROCESS: HEXDEC, and then PROCESS_BIN -/

section

variable (hn : s.inLen.toNat ≤ 512) (hd : hexDecode (inText s) = .ok r)

include hn hd

theorem ingested_length : r.length ≤ 256 := by
  have := hexDecode_inText_length hd
  omega

omit hn in
theorem ingested_frameLen : (ingested r s).frameLen = BitVec.ofNat 16 r.length := by
  rw [hexDecode_inText_length hd]
  rfl

theorem ingested_frameLen_toNat : (ingested r s).frameLen.toNat = r.length := by
  have hlen := ingested_length hn hd
  rw [ingested_frameLen hd, BitVec.toNat_ofNat]
  omega

/-- After HEXDEC the frame is the decoded text (41_frame_parser.md R161). -/
theorem frameString_ingested : frameString (ingested r s) = r := by
  rw [frameString, ingested_frameLen_toNat hn hd]
  exact bytesAt_setBytes_self (s := s) rfl

/-- HEXDEC and PARSE together, in terms of the telegram alone (41_frame_parser.md R161, R164). -/
theorem parsed_ingested :
    parsed (ingested r s) = { invalidate s with
      mem := Memory.setBytes s.mem (bufBase .frame) r, frameLen := BitVec.ofNat 16 r.length,
      hdr := parseHeader r, iv := deriveIV r, hdrValid := true } := by
  rw [parsed, frameString_ingested hn hd, ← ingested_frameLen hd]
  rfl

theorem processBody_ingested : processBody s = processBinBody (ingested r s) :=
  andThen_ok (hexdecBody_ok hn hd)

theorem processBody_ok (h21 : 21 ≤ r.length) (hk : s.keyLen = 16)
    (hok : payloadCrcOk (framePayload (keyString s) r) = true)
    (hx : extractFields (framePayload (keyString s) r) = .ok x) :
    processBody s =
      finish 0 (storeExtraction x .pt (published (framePayload (keyString s) r) (parsed (ingested r s)))) := by
  have hlen := ingested_length hn hd
  have hnat := ingested_frameLen_toNat hn hd
  have hframe := frameString_ingested hn hd
  have hkey : keyString (ingested r s) = keyString s := rfl
  rw [processBody_ingested hn hd, processBinBody_ok (s := ingested r s) (x := x) (by omega) (by omega) hk (by rwa [hframe, hkey])
    (by rwa [hframe, hkey]), hframe, hkey]

end

/-- Two strings stored one behind the other: the first reads back, and what lies outside both reads as before. -/
theorem byteAt_two_strings {a c : Nat} (hm : t.mem = Memory.setBytes (Memory.setBytes s.mem a r) c p)
    (hr : t.resets = s.resets) (hac : a + r.length ≤ c) :
    holds t a r ∧ ∀ y, ¬ (a ≤ y ∧ y < a + r.length) → ¬ (c ≤ y ∧ y < c + p.length) → byteAt t y = byteAt s y := by
  have hsecond {y : Nat} (hy : ¬ (c ≤ y ∧ y < c + p.length)) :
      byteAt t y = byteAt { s with mem := Memory.setBytes s.mem a r } y := byteAt_setBytes_out hm hr hy
  refine ⟨fun k hk => ?_, fun y ha hc => ?_⟩
  · rw [hsecond (by omega)]
    exact byteAt_setBytes_in rfl hk
  · rw [hsecond hc]
    exact byteAt_setBytes_out rfl rfl ha

/-- Settles O44: HEXDEC leaves the telegram in FRAME, PROCESS_BIN decodes it from there, and the two strings stored lie
apart. -/
theorem processDecodesATelegram : Obligations.ProcessDecodesATelegram := by
  rintro s r p x hn hd h21 hk rfl hok hx
  have hbody := processBody_ok (s := latchOp 0x10 s) hn hd h21 hk hok hx
  rw [parsed_ingested (s := latchOp 0x10 s) hn hd] at hbody
  have hlen : 0x600 + r.length ≤ 0x700 := Nat.add_le_add_left (ingested_length hn hd) _
  obtain ⟨hframe, houtside⟩ := byteAt_two_strings (s := s)
    (t := published (framePayload (keyString s) r) (ingested r s)) rfl rfl hlen
  exact ⟨_, exec_finish (i := .process) hbody, rfl, hframe, fun _ hk => byteAt_setBytes_in (s := ingested r s) rfl hk,
    houtside⟩

end Sys2Proof.Machine
end

section
/-!
SUPPORT. One changed ciphertext byte of a frame, two runs of PROCESS on the same text, and the two statements about them
(spec/42_decrypt.md R206, spec/44_control.md R266).
-/

namespace Sys2Proof.Machine

open Sys2Proof.Safety

variable {s s' t : State} {key iv14 c r : Bytes} {b : Byte} {j k : Nat}

/-! ### One changed byte, from the frame to the payload -/

theorem xorBytes_set {a ks : Bytes} (hk : k < ks.length) :
    xorBytes (a.set k b) ks = (xorBytes a ks).set k (b ^^^ byteOf ks k) := by
  induction a generalizing k ks with
  | nil => simp [xorBytes]
  | cons x a ih =>
    cases ks with
    | nil => exact absurd hk (Nat.not_lt_zero k)
    | cons y ks =>
      cases k with
      | zero => rfl
      | succ k => exact congrArg (_ :: ·) (ih (Nat.lt_of_succ_lt_succ hk))

/-- A changed ciphertext byte changes the plaintext byte at the same place, and no other (42_decrypt.md R199). -/
theorem ctrCrypt_set (hkey : key.length = 16) (hk : k < c.length) :
    ctrCrypt key iv14 (c.set k b) =
      (ctrCrypt key iv14 c).set k (b ^^^ byteOf (keystream key iv14 c.length) k) := by
  have hks : k < (keystream key iv14 c.length).length := by
    rw [keystream_length hkey]
    omega
  rw [ctrCrypt, List.length_set, xorBytes_set hks, ctrCrypt]

theorem byteOf_ctrCrypt (hkey : key.length = 16) (hk : k < c.length) :
    byteOf (ctrCrypt key iv14 c) k = byteOf c k ^^^ byteOf (keystream key iv14 c.length) k := by
  have hks : k < (keystream key iv14 c.length).length := by
    rw [keystream_length hkey]
    omega
  rw [ctrCrypt, byteOf_xorBytes hk hks]

/-- The counter block comes from the first 17 bytes of the frame (41_frame_parser.md R163). -/
theorem deriveIV_set (hj : 17 ≤ j) : deriveIV (r.set j b) = deriveIV r := by
  simp (disch := omega) only [deriveIV, byteOf_set_ne]

theorem slice_set {lo hi : Nat} (hj : lo ≤ j) : slice (r.set j b) lo hi = (slice r lo hi).set (j - lo) b := by
  rw [slice, List.drop_set, if_neg (Nat.not_lt.2 hj), List.take_set, slice]

theorem byteOf_slice {lo hi : Nat} (hk : lo + k < hi) : byteOf (slice r lo hi) k = byteOf r (lo + k) := by
  have hlt : k < hi - lo := by omega
  simp [byteOf, slice, hlt]

/-- A telegram whose payload passes its CRC fails it after a change of one ciphertext byte (42_decrypt.md R206). -/
theorem framePayload_set (hkey : key.length = 16) (hlo : 17 ≤ j) (hhi : j + 2 < r.length) (hb : b ≠ byteOf r j)
    (hok : payloadCrcOk (framePayload key r) = true) : payloadCrcOk (framePayload key (r.set j b)) = false := by
  have hin : j - 17 < (slice r 17 (r.length - 2)).length := by
    rw [slice_length]
    omega
  have hbyte : b ≠ byteOf (slice r 17 (r.length - 2)) (j - 17) := by
    rwa [byteOf_slice (by omega), Nat.add_sub_cancel' hlo]
  rw [framePayload, deriveIV_set hlo, List.length_set, slice_set hlo, ctrCrypt_set hkey hin]
  refine payloadCrcOk_set (by rwa [ctrCrypt_length hkey]) (fun h => hbyte ?_) hok
  rw [byteOf_ctrCrypt hkey hin] at h
  exact (BitVec.xor_left_inj _).1 h

/-- The frame of a state in which one byte of FRAME differs. -/
theorem frameString_set (hn : s'.frameLen = s.frameLen)
    (hrest : ∀ a, a ≠ 0x600 + j → byteAt s' a = byteAt s a) :
    frameString s' = (frameString s).set j (byteAt s' (0x600 + j)) := by
  refine List.ext_getElem (by simp [hn]) fun n h _ => ?_
  rw [frameString_length] at h
  by_cases hnj : n = j
  · subst hnj
    simp [frameString, bytesAt, bufBase]
  · have hne : byteAt s' (0x600 + n) = byteAt s (0x600 + n) := hrest _ (by omega)
    simp [frameString, bytesAt, bufBase, List.getElem_set_ne (Ne.symm hnj), hne]

/-! ### The tampered telegram -/

/-- PROCESS_BIN sets PT_VALID only over a legal frame whose payload passes its CRC (44_control.md R262). -/
theorem processBin_ptValid {o : OutcomeName} {d : BitVec 4} (h : processBinBody s = .ended t o d)
    (hv : t.ptValid = true) :
    21 ≤ s.frameLen.toNat ∧ s.frameLen.toNat ≤ 256 ∧ s.keyLen = 16 ∧
      payloadCrcOk (framePayload (keyString s) (frameString s)) = true := by
  rcases processBinBody_ended h with ⟨-, rfl | ⟨c, rfl⟩⟩ | ⟨hlo, hhi, hk, hok, -⟩
  · exact absurd hv Bool.false_ne_true
  · exact absurd hv Bool.false_ne_true
  · exact ⟨hlo, hhi, hk, hok⟩

/-- Settles O46: the changed byte reaches the payload, the payload's CRC fails, and PROCESS_BIN ends in the branch that
publishes nothing. -/
theorem aTamperedTelegramIsRefused : Obligations.ATamperedTelegramIsRefused := by
  intro s s' t j hexec hv hs' hlo hhi hbyte hrest
  obtain ⟨u, o, d, hbody, rfl⟩ := exec_next.1 hexec
  obtain ⟨h21, h256, hk, hok⟩ := processBin_ptValid hbody hv
  have hn : s'.frameLen = s.frameLen := (congrArg State.frameLen hs').trans rfl
  have hkeyLen : s'.keyLen = s.keyLen := (congrArg State.keyLen hs').trans rfl
  have hkey : keyString s' = keyString s := (congrArg keyString hs').trans rfl
  have hold : byteOf (frameString s) j = byteAt s (0x600 + j) := byteOf_frameString (by omega)
  have hbad : payloadCrcOk (framePayload (keyString s') (frameString s')) = false := by
    rw [hkey, frameString_set hn hrest]
    exact framePayload_set (keyString_length s) hlo (by rwa [frameString_length]) (by rwa [hold]) hok
  have hmismatch := processBinBody_mismatch (s := latchOp 0x11 s') (by rw [latchOp_frameLen, hn]; exact h21)
    (by rw [latchOp_frameLen, hn]; exact h256) (hkeyLen.trans hk) hbad
  exact ⟨_, exec_raise (i := .processBin) hmismatch, rfl, rfl, rfl, rfl, fun _ => byteAt_congr rfl rfl _⟩

/-! ### Two runs on the same telegram -/

/-- What an OK outcome of PROCESS leaves, read by the host (44_control.md R266). -/
structure SameTelegram (t t' : State) : Prop where
  frameLen : t'.frameLen = t.frameLen
  frame : frameString t' = frameString t
  hdr : t'.hdr = t.hdr
  iv : t'.iv = t.iv
  pcrc : t'.pcrc = t.pcrc
  ptLen : t'.ptLen = t.ptLen
  plain : plainText t' = plainText t
  val0 : t'.val0 = t.val0
  val1 : t'.val1 = t.val1
  val2 : t'.val2 = t.val2
  val3 : t'.val3 = t.val3
  valFound : t'.valFound = t.valFound
  fmt : t'.fmt = t.fmt
  dsrc : t'.dsrc = t.dsrc

/-- Two bodies end with the same outcome and valid flags, and with the same telegram when that outcome is OK. -/
def EndAlike (e e' : BodyEnd) : Prop :=
  ∃ t t' o d, e = .ended t o d ∧ e' = .ended t' o d ∧ t'.hdrValid = t.hdrValid ∧ t'.ptValid = t.ptValid ∧
    t'.dataValid = t.dataValid ∧ (o = .ok → SameTelegram t t')

theorem EndAlike.raise {o : OutcomeName} {d : BitVec 4} (ho : o ≠ .ok) (hh : s'.hdrValid = s.hdrValid)
    (hp : s'.ptValid = s.ptValid) (hd : s'.dataValid = s.dataValid) : EndAlike (raise o d s) (raise o d s') :=
  ⟨s, s', o, d, rfl, rfl, hh, hp, hd, fun h => absurd h ho⟩

/-- Two states that PROCESS_BIN cannot tell apart: the same frame and the same key. -/
structure SameInput (s s' : State) : Prop where
  frameLen : s'.frameLen = s.frameLen
  frame : frameString s' = frameString s
  key : s'.key = s.key
  keyLen : s'.keyLen = s.keyLen

theorem SameInput.keyString (h : SameInput s s') : Machine.keyString s' = Machine.keyString s :=
  congrArg Vector.toList h.key

theorem SameInput.payload (h : SameInput s s') :
    framePayload (Machine.keyString s') (frameString s') = framePayload (Machine.keyString s) (frameString s) := by
  rw [h.keyString, h.frame]

/-- The telegram that stands in the block after a payload has been published and extracted from. -/
theorem SameInput.sameTelegram (h : SameInput s s') (hhi : s.frameLen.toNat ≤ 256) (x : Extraction) :
    SameTelegram
      (storeExtraction x .pt (published (framePayload (Machine.keyString s) (frameString s)) (parsed s)))
      (storeExtraction x .pt (published (framePayload (Machine.keyString s') (frameString s')) (parsed s'))) := by
  have hhdr : (parsed s').hdr = (parsed s).hdr := congrArg parseHeader h.frame
  have hframe (v : State) (hv : v.frameLen.toNat ≤ 256) (p : Bytes) :
      frameString (published p (parsed v)) = frameString v :=
    frameString_published p (s := parsed v) hv
  exact
    { frameLen := h.frameLen
      frame := (hframe s' (by rwa [h.frameLen]) _).trans (h.frame.trans (hframe s hhi _).symm)
      hdr := hhdr
      iv := congrArg deriveIV h.frame
      pcrc := congrArg pcrcWord h.payload
      ptLen := congrArg Header.payLen hhdr
      plain := (plainText_published_parsed s').trans (h.payload.trans (plainText_published_parsed s).symm)
      val0 := by simp, val1 := by simp, val2 := by simp, val3 := by simp, valFound := by simp, fmt := by simp
      dsrc := by simp }

/-- PROCESS_BIN runs alike on the same frame and key, whatever else the block holds (44_control.md R266). -/
theorem SameInput.processBin (h : SameInput s s') : EndAlike (processBinBody s) (processBinBody s') := by
  rw [processBinBody_eq, processBinBody_eq, h.frameLen, h.keyLen]
  have hpay := h.payload
  split_ifs with hlong hshort hk0 hk16 h21 hok hok' hok'
  · exact .raise (by decide) rfl rfl rfl
  · exact .raise (by decide) rfl rfl rfl
  · exact .raise (by decide) rfl rfl rfl
  · exact .raise (by decide) rfl rfl rfl
  · exact .raise (by decide) rfl rfl rfl
  · have hsame := h.sameTelegram (Nat.not_lt.1 hlong)
    rw [hpay] at hsame ⊢
    cases hx : extractFields (framePayload (Machine.keyString s) (frameString s)) with
    | error e =>
      rw [extractFrom_error hx, extractFrom_error hx]
      exact .raise (by decide) rfl rfl rfl
    | ok x =>
      rw [extractFrom_ok hx, extractFrom_ok hx]
      exact ⟨_, _, _, _, rfl, rfl, rfl, rfl, rfl, fun _ => hsame x⟩
  · exact absurd (hpay ▸ hok) hok'
  · exact absurd (hpay ▸ hok') hok
  · exact .raise (by decide) rfl rfl rfl

/-- PROCESS runs alike on the same text and key (44_control.md R266). -/
theorem process_endAlike (hn : s'.inLen = s.inLen) (htext : inText s' = inText s) (hkey : s'.key = s.key)
    (hkeyLen : s'.keyLen = s.keyLen) : EndAlike (processBody s) (processBody s') := by
  by_cases hlong : 512 < s.inLen.toNat
  · have h := andThen_stop (g := processBinBody) (hexdecBody_long hlong) (by decide)
    have h' := andThen_stop (g := processBinBody) (hexdecBody_long (s := s') (by rwa [hn])) (by decide)
    exact ⟨_, _, _, _, h, h', rfl, rfl, rfl, nofun⟩
  · have hle : s.inLen.toNat ≤ 512 := Nat.not_lt.1 hlong
    have hle' : s'.inLen.toNat ≤ 512 := by rwa [hn]
    cases hd : hexDecode (inText s) with
    | error e =>
      have h := andThen_stop (g := processBinBody) (hexdecBody_error hle hd) (by decide)
      have h' := andThen_stop (g := processBinBody) (hexdecBody_error hle' (htext ▸ hd)) (by decide)
      exact ⟨_, _, _, _, h, h', rfl, rfl, rfl, nofun⟩
    | ok r =>
      have hd' : hexDecode (inText s') = .ok r := htext ▸ hd
      have hsame : SameInput (ingested r s) (ingested r s') :=
        { frameLen := (ingested_frameLen hd').trans (ingested_frameLen hd).symm
          frame := (frameString_ingested hle' hd').trans (frameString_ingested hle hd).symm
          key := hkey
          keyLen := hkeyLen }
      rw [processBody_ingested hle hd, processBody_ingested hle' hd']
      exact hsame.processBin

/-- Settles O47: PROCESS reads the text and the key alone, and on OK everything it leaves is computed from them. -/
theorem processForgetsEarlierTelegrams : Obligations.ProcessForgetsEarlierTelegrams := by
  intro s s' hn htext hkey hkeyLen
  obtain ⟨t, t', o, d, ht, ht', hh, hp, hd, hok⟩ :=
    process_endAlike (s := latchOp 0x10 s) (s' := latchOp 0x10 s') hn htext hkey hkeyLen
  refine ⟨_, _, exec_ended (i := .process) ht, exec_ended (i := .process) ht', rfl, rfl, hh, hp, hd, fun hr => ?_⟩
  have hsame := hok (outcomeCode_eq_zero.1 hr)
  exact ⟨hsame.frameLen, hsame.frame, hsame.hdr, hsame.iv, hsame.pcrc, hsame.ptLen, hsame.plain, hsame.val0, hsame.val1,
    hsame.val2, hsame.val3, hsame.valFound, hsame.fmt, hsame.dsrc⟩

end Sys2Proof.Machine
end

section
/-!
SUPPORT. The bytes each command stores, the valid flags it leaves, and the three statements about them
(spec/10_state.md R28 to R31, R53 to R57, spec/60_exceptions.md R292).
-/

namespace Sys2Proof.Machine

open Sys2Proof.Safety

variable {s t : State} {o : OutcomeName} {d : BitVec 4} {i : Instr} {y : Nat}

/-! ### The bytes each command stores -/

/-- A body that lists no buffer among its fields stores nothing. -/
theorem mayWrite_mem (hi : i ∉ [Instr.hexdec, .decrypt, .process, .processBin]) :
    (mayWrite i s t).mem = s.mem ∧ (mayWrite i s t).resets = s.resets := by
  revert hi
  cases i <;> simp [mayWrite]

theorem exec_byteAt (h : exec i s = .next t) (hi : i ∉ [Instr.hexdec, .decrypt, .process, .processBin]) :
    byteAt t y = byteAt s y := by
  obtain ⟨l, r, d, e, hw⟩ := exec_writes h
  obtain ⟨hmem, hres⟩ := mayWrite_mem (s := s) (t := t) hi
  exact byteAt_congr ((congrArg State.mem hw).trans hmem) ((congrArg State.resets hw).trans hres) y

/-- HEXDEC stores in FRAME[0:IN_LEN/2) alone (10_state.md R54). -/
theorem hexdec_byteAt (h : hexdecBody s = .ended t o d) (hy : ¬ (0x600 ≤ y ∧ y < 0x600 + s.inLen.toNat / 2)) :
    byteAt t y = byteAt s y := by
  rcases hexdecBody_ended h with ⟨-, -, rfl⟩ | ⟨r, -, -, -, hr, rfl⟩
  · exact byteAt_congr rfl rfl y
  · exact byteAt_setBytes_out rfl rfl (by rwa [hexDecode_inText_length hr])

/-- Publishing a payload of PAY_LEN bytes stores in PT[0:PAY_LEN) alone (10_state.md R55). -/
theorem published_byteAt {p : Bytes} (hp : p.length = s.hdr.payLen.toNat)
    (hy : ¬ (0x700 ≤ y ∧ y < 0x700 + s.hdr.payLen.toNat)) : byteAt (published p s) y = byteAt s y :=
  byteAt_setBytes_out rfl rfl (by rwa [hp])

theorem decrypt_byteAt (h : decryptBody s = .ended t o d)
    (hy : ¬ (0x700 ≤ y ∧ y < 0x700 + t.hdr.payLen.toNat)) : byteAt t y = byteAt s y := by
  rcases decryptBody_ended h with ⟨-, rfl⟩ | ⟨-, -, -, -, rfl⟩ | ⟨-, -, rfl⟩ | ⟨-, -, -, -, -, -, -, -, rfl⟩
  · rfl
  · rfl
  · exact byteAt_congr rfl rfl y
  · exact published_byteAt (payloadOf_length s) hy

theorem processBin_byteAt (h : processBinBody s = .ended t o d)
    (hy : ¬ (0x700 ≤ y ∧ y < 0x700 + t.hdr.payLen.toNat)) : byteAt t y = byteAt s y := by
  have hlen := (framePayload_length s).trans (parsed_payLen s).symm
  rcases processBinBody_ended h with ⟨-, rfl | ⟨c, rfl⟩⟩ | ⟨-, -, -, -, ⟨-, rfl⟩ | ⟨x, -, rfl⟩⟩
  · exact byteAt_congr rfl rfl y
  · exact byteAt_congr rfl rfl y
  · exact published_byteAt hlen hy
  · exact published_byteAt hlen hy

theorem process_byteAt (h : processBody s = .ended t o d)
    (h6 : ¬ (0x600 ≤ y ∧ y < 0x600 + s.inLen.toNat / 2))
    (h7 : ¬ (0x700 ≤ y ∧ y < 0x700 + t.hdr.payLen.toNat)) : byteAt t y = byteAt s y := by
  rcases andThen_ended h with ⟨h, -⟩ | ⟨u, _, hu, h⟩
  · exact hexdec_byteAt h h6
  · exact (processBin_byteAt h h7).trans (hexdec_byteAt hu h6)

/-- Settles O50: HEXDEC stores the decoded text and DECRYPT the payload, the pipelines both or one, and no other command
a byte. -/
theorem commandsStoreOnlyTheirBufferBytes : Obligations.CommandsStoreOnlyTheirBufferBytes := by
  intro i s t y h h6 h7
  by_cases hi : i ∈ [Instr.hexdec, .decrypt, .process, .processBin]
  · obtain ⟨u, o, d, hu, rfl⟩ := exec_next.1 h
    fin_cases hi
    · exact hexdec_byteAt (s := latchOp 0x01 s) (t := u) hu fun hy => h6 ⟨.inl rfl, hy⟩
    · exact decrypt_byteAt (s := latchOp 0x03 s) (t := u) hu fun hy => h7 ⟨.inl rfl, hy⟩
    · exact process_byteAt (s := latchOp 0x10 s) (t := u) hu (fun hy => h6 ⟨.inr rfl, hy⟩) fun hy => h7 ⟨.inr (.inl rfl), hy⟩
    · exact processBin_byteAt (s := latchOp 0x11 s) (t := u) hu fun hy => h7 ⟨.inr (.inr rfl), hy⟩
  · exact exec_byteAt h hi

/-! ### The valid flags after each single command -/

theorem hexdec_flags (h : hexdecBody s = .ended t o d) :
    t.hdrValid = false ∧ t.ptValid = false ∧ t.dataValid = false := by
  rcases hexdecBody_ended h with ⟨-, -, rfl⟩ | ⟨r, -, -, -, -, rfl⟩ <;> exact ⟨rfl, rfl, rfl⟩

theorem parse_flags (h : parseBody s = .ended t o d) :
    (t.hdrValid = true ↔ o = .ok) ∧ t.ptValid = false ∧ t.dataValid = false := by
  rcases parseBody_ended h with ⟨rfl, -, rfl⟩ | ⟨rfl, -, -, -, rfl⟩
  · exact ⟨iff_of_false Bool.false_ne_true (by decide), rfl, rfl⟩
  · exact ⟨iff_of_true rfl rfl, rfl, rfl⟩

theorem decrypt_flags (h : decryptBody s = .ended t o d) :
    t.hdrValid = s.hdrValid ∧ t.dataValid = s.dataValid ∧ (o = .ok → t.ptValid = true) ∧
      (o ≠ .ok → t.ptValid = s.ptValid) := by
  rcases decryptBody_ended h with ⟨ho, rfl⟩ | ⟨rfl, -, -, hv, rfl⟩ | ⟨rfl, -, rfl⟩ | ⟨rfl, -, -, -, -, -, -, -, rfl⟩
  · have hne : o ≠ .ok := by
      rcases ho with ⟨rfl, -⟩ | ⟨rfl, -⟩ | ⟨rfl, -⟩ <;> decide
    exact ⟨rfl, rfl, fun hok => absurd hok hne, fun _ => rfl⟩
  · exact ⟨rfl, rfl, fun _ => hv, fun _ => rfl⟩
  · exact ⟨rfl, rfl, nofun, fun _ => rfl⟩
  · exact ⟨rfl, rfl, fun _ => rfl, fun hne => absurd rfl hne⟩

/-- What the two extraction commands do to the valid flags (10_state.md R31). -/
def ExtractionFlags (s t : State) (o : OutcomeName) : Prop :=
  t.hdrValid = s.hdrValid ∧ t.ptValid = s.ptValid ∧ (o = .ok → t.dataValid = true) ∧
    (o = .noData → t.dataValid = false) ∧ (o ≠ .ok → o ≠ .noData → t.dataValid = s.dataValid)

theorem extract_flags (h : extractBody s = .ended t o d) : ExtractionFlags s t o := by
  rcases extractBody_ended h with ⟨rfl, -, -, rfl⟩ | ⟨-, -, rfl, -, -, rfl⟩ | ⟨x, -, -, rfl, -, -, rfl⟩
  · exact ⟨rfl, rfl, nofun, nofun, fun _ _ => rfl⟩
  · exact ⟨rfl, rfl, nofun, fun _ => rfl, fun _ hne => absurd rfl hne⟩
  · exact ⟨rfl, rfl, fun _ => rfl, nofun, fun hne _ => absurd rfl hne⟩

theorem extractDirect_flags (h : extractDirectBody s = .ended t o d) : ExtractionFlags s t o := by
  rcases extractDirectBody_ended h with ⟨rfl, -, rfl⟩ | ⟨-, rfl, -, -, rfl⟩ | ⟨x, -, rfl, -, -, rfl⟩
  · exact ⟨rfl, rfl, nofun, nofun, fun _ _ => rfl⟩
  · exact ⟨rfl, rfl, nofun, fun _ => rfl, fun _ hne => absurd rfl hne⟩
  · exact ⟨rfl, rfl, fun _ => rfl, nofun, fun hne _ => absurd rfl hne⟩

/-- The valid flags are no fields of NOP and the CRC commands (10_state.md R57). -/
theorem mayWrite_flags (hi : i ∈ [Instr.nop, .crcCcitt, .crcWmbus, .checkTrailer, .checkPcrc]) :
    (mayWrite i s t).hdrValid = s.hdrValid ∧ (mayWrite i s t).ptValid = s.ptValid ∧
      (mayWrite i s t).dataValid = s.dataValid := by
  fin_cases hi <;> exact ⟨rfl, rfl, rfl⟩

/-- A code of RESULT is 4 for NO_DATA alone (60_exceptions.md R281). -/
theorem outcomeCode_eq_four {o : OutcomeName} : outcomeCode o = 4 ↔ o = .noData := by
  cases o <;> decide

/-- What an extraction did to the flags, read off the recorded RESULT. -/
theorem ExtractionFlags.recorded (h : ExtractionFlags s t o) (d : BitVec 4) :
    (recordOutcome o d t).hdrValid = s.hdrValid ∧ (recordOutcome o d t).ptValid = s.ptValid ∧
      ((recordOutcome o d t).result = 0 → (recordOutcome o d t).dataValid = true) ∧
      ((recordOutcome o d t).result = 4 → (recordOutcome o d t).dataValid = false) ∧
      ((recordOutcome o d t).result ≠ 0 → (recordOutcome o d t).result ≠ 4 →
        (recordOutcome o d t).dataValid = s.dataValid) := by
  obtain ⟨hh, hp, hok, hnone, hkept⟩ := h
  simp only [recordOutcome_result, ne_eq, outcomeCode_eq_zero, outcomeCode_eq_four]
  exact ⟨hh, hp, hok, hnone, hkept⟩

/-- Settles O52: the flags each body leaves, with RESULT in place of the outcome it records. -/
theorem commandsMoveTheValidFlagsAsTheTableSays : Obligations.CommandsMoveTheValidFlagsAsTheTableSays := by
  intro i s t h
  refine ⟨?hexdec, ?parse, ?decrypt, ?extraction, ?clear, fun hi => ?others⟩
  case others =>
    obtain ⟨l, r, d, e, hw⟩ := exec_writes h
    rw [hw]
    exact mayWrite_flags hi
  all_goals obtain ⟨u, o, d, hu, rfl⟩ := exec_next.1 h
  case hexdec =>
    rintro rfl
    exact hexdec_flags (t := u) hu
  case parse =>
    rintro rfl
    obtain ⟨hh, hp, hd⟩ := parse_flags hu
    exact ⟨hh.trans outcomeCode_eq_zero.symm, hp, hd⟩
  case decrypt =>
    rintro rfl
    obtain ⟨hh, hd, hok, hne⟩ := decrypt_flags hu
    exact ⟨hh, hd, fun hr => hok (outcomeCode_eq_zero.1 hr), fun hr => hne (mt outcomeCode_eq_zero.2 hr)⟩
  case extraction =>
    rintro (rfl | rfl)
    · exact (extract_flags hu).recorded d
    · exact (extractDirect_flags hu).recorded d
  case clear =>
    rintro rfl
    cases hu
    exact ⟨rfl, rfl, rfl⟩

/-! ### Which step sets PT_VALID and DATA_VALID -/

/-- A DECRYPT that raises PT_VALID has published a payload that passes its CRC (10_state.md R30). -/
theorem decrypt_sets_ptValid (h : decryptBody s = .ended t o d) (hs : s.ptValid = false) (ht : t.ptValid = true) :
    payloadCrcOk (plainText t) = true := by
  rcases decryptBody_ended h with ⟨-, rfl⟩ | ⟨-, -, -, hv, rfl⟩ | ⟨-, -, rfl⟩ | ⟨-, -, -, -, -, -, -, hok, rfl⟩
  · exact absurd ht (Bool.eq_false_iff.1 hs)
  · exact absurd hv (Bool.eq_false_iff.1 hs)
  · exact absurd ht (Bool.eq_false_iff.1 hs)
  · exact (congrArg payloadCrcOk (plainText_published (payloadOf_length s))).trans hok

theorem processBin_sets_ptValid (h : processBinBody s = .ended t o d) (ht : t.ptValid = true) :
    payloadCrcOk (plainText t) = true := by
  rcases processBinBody_ended h with ⟨-, rfl | ⟨c, rfl⟩⟩ | ⟨-, -, -, hok, ⟨-, rfl⟩ | ⟨x, -, rfl⟩⟩
  · exact absurd ht Bool.false_ne_true
  · exact absurd ht Bool.false_ne_true
  · exact (congrArg payloadCrcOk (plainText_published_parsed s)).trans hok
  · exact (congrArg payloadCrcOk (plainText_published_parsed s)).trans hok

theorem process_sets_ptValid (h : processBody s = .ended t o d) (ht : t.ptValid = true) :
    payloadCrcOk (plainText t) = true := by
  rcases andThen_ended h with ⟨h, -⟩ | ⟨u, _, -, h⟩
  · obtain ⟨-, hp, -⟩ := hexdec_flags h
    exact absurd ht (Bool.eq_false_iff.1 hp)
  · exact processBin_sets_ptValid h ht

/-- HEXDEC, PARSE and CLEAR lower all but HDR_VALID, and no other command but those that decrypt touches PT_VALID. -/
theorem exec_ptValid_lowered (h : exec i s = .next t) (hi : i ∉ [Instr.decrypt, .process, .processBin])
    (ht : t.ptValid = true) : s.ptValid = true := by
  obtain ⟨fhexdec, fparse, -, fextract, fclear, fothers⟩ := commandsMoveTheValidFlagsAsTheTableSays i s t h
  have lowered (hl : t.ptValid = false) : s.ptValid = true := absurd ht (Bool.eq_false_iff.1 hl)
  cases i
  case decrypt | process | processBin => exact absurd (by decide) hi
  case hexdec =>
    obtain ⟨-, hp, -⟩ := fhexdec rfl
    exact lowered hp
  case parse =>
    obtain ⟨-, hp, -⟩ := fparse rfl
    exact lowered hp
  case clear =>
    obtain ⟨-, hp, -⟩ := fclear rfl
    exact lowered hp
  case extract =>
    obtain ⟨-, hp, -⟩ := fextract (.inl rfl)
    exact hp.symm.trans ht
  case extractDirect =>
    obtain ⟨-, hp, -⟩ := fextract (.inr rfl)
    exact hp.symm.trans ht
  all_goals
    obtain ⟨-, hp, -⟩ := fothers (by decide)
    exact hp.symm.trans ht

/-- Only the commands that decrypt raise PT_VALID. -/
theorem exec_sets_ptValid (h : exec i s = .next t) (hs : s.ptValid = false) (ht : t.ptValid = true) :
    (i = .decrypt ∨ i = .process ∨ i = .processBin) ∧ payloadCrcOk (plainText t) = true := by
  by_cases hi : i ∈ [Instr.decrypt, .process, .processBin]
  · obtain ⟨u, o, d, hu, rfl⟩ := exec_next.1 h
    fin_cases hi
    · exact ⟨.inl rfl, decrypt_sets_ptValid (t := u) hu hs ht⟩
    · exact ⟨.inr (.inl rfl), process_sets_ptValid (t := u) hu ht⟩
    · exact ⟨.inr (.inr rfl), processBin_sets_ptValid (t := u) hu ht⟩
  · exact absurd (exec_ptValid_lowered h hi ht) (Bool.eq_false_iff.1 hs)

/-- Only the commands that extract raise DATA_VALID. -/
theorem exec_sets_dataValid (h : exec i s = .next t) (hs : s.dataValid = false) (ht : t.dataValid = true) :
    i = .extract ∨ i = .extractDirect ∨ i = .process ∨ i = .processBin := by
  obtain ⟨fhexdec, fparse, fdecrypt, -, fclear, fothers⟩ := commandsMoveTheValidFlagsAsTheTableSays i s t h
  have kept (hk : t.dataValid = s.dataValid) : False := Bool.eq_false_iff.1 (hk.trans hs) ht
  have lowered (hl : t.dataValid = false) : False := Bool.eq_false_iff.1 hl ht
  cases i
  case extract => exact .inl rfl
  case extractDirect => exact .inr (.inl rfl)
  case process => exact .inr (.inr (.inl rfl))
  case processBin => exact .inr (.inr (.inr rfl))
  case hexdec =>
    obtain ⟨-, -, hd⟩ := fhexdec rfl
    exact (lowered hd).elim
  case parse =>
    obtain ⟨-, -, hd⟩ := fparse rfl
    exact (lowered hd).elim
  case clear =>
    obtain ⟨-, -, hd⟩ := fclear rfl
    exact (lowered hd).elim
  case decrypt =>
    obtain ⟨-, hd, -⟩ := fdecrypt rfl
    exact (kept hd).elim
  all_goals
    obtain ⟨-, -, hd⟩ := fothers (by decide)
    exact (kept hd).elim

/-- A step that runs no command raises neither PT_VALID nor DATA_VALID (60_exceptions.md R292). -/
theorem step_command_or_lowers (h : step s = .next t) :
    (∃ i rest, s.pending = .txn (.write 0x000 (encode i)) :: rest ∧ exec i (served rest .writeDone s) = .next t) ∨
    ((t.ptValid = true → s.ptValid = true) ∧ (t.dataValid = true → s.dataValid = true)) := by
  rcases step_cases s with ⟨-, hs⟩ | ⟨rest, -, hs⟩ | ⟨e, rest, r, -, hs⟩ | ⟨w, i, rest, hp, hd, hs⟩ |
    ⟨w, e, rest, -, -, hs⟩ | ⟨off, w, rest, -, -, hs⟩ <;> rw [hs] at h
  case inr.inr.inr.inl =>
    rw [decode_eq_ok.1 hd] at hp
    exact .inl ⟨i, rest, hp, h⟩
  all_goals cases h; right
  · exact ⟨id, id⟩
  · exact ⟨nofun, nofun⟩
  · exact ⟨id, id⟩
  · exact ⟨id, id⟩
  · rcases writeTarget_cases off w (answer .writeDone { s with pending := rest }) with
      ⟨_, _, _, _, _, _, hw⟩ | ⟨_, hw⟩ | ⟨_, _, hw⟩ | ⟨_, _, hw⟩ <;> rw [hw]
    · exact ⟨id, id⟩
    · exact ⟨nofun, nofun⟩
    · exact ⟨id, id⟩
    · exact ⟨nofun, nofun⟩

/-- Settles O53: no host write raises the two flags, and of the commands only those of the statement do. -/
theorem onlyCommandsSetPtValidAndDataValid : Obligations.OnlyCommandsSetPtValidAndDataValid := by
  intro s t h
  rcases step_command_or_lowers h with ⟨i, rest, hp, hexec⟩ | ⟨hpt, hdata⟩
  · refine ⟨fun hs ht => ?_, fun hs ht => ⟨i, rest, hp, exec_sets_dataValid hexec hs ht⟩⟩
    obtain ⟨hi, hcrc⟩ := exec_sets_ptValid hexec hs ht
    exact ⟨i, rest, hp, hi, hcrc⟩
  · exact ⟨fun hs ht => absurd (hpt ht) (Bool.eq_false_iff.1 hs),
      fun hs ht => absurd (hdata ht) (Bool.eq_false_iff.1 hs)⟩

end Sys2Proof.Machine
end
